-- ==== Sys2Proof/Word.lean ====
section
/-! DEFINITION. The word types of the block: bytes of `HB` (R20), `u32` operands and results (R9), the 136-bit
command and response words of the command port (R90). -/

namespace Sys2Proof

/-- One byte of the heartbeat buffer (R20). -/
abbrev Byte := BitVec 8

/-- An unsigned 32-bit operand, result, identifier or handler tag (R9). -/
abbrev U32 := BitVec 32

/-- A command word or a response word on the command port (R90). -/
abbrev PortWord := BitVec 136

end Sys2Proof
end

