-- ==== Sys2Proof/Syntax.lean ====
section
/-! DEFINITION. The commands of the block as syntax: one constructor per row of the opcode map (30_encoding.md R108),
with the operands its format gives it (R100 to R107). -/

namespace Sys2Proof

/-- The parameters of a bit-field that lies in one byte (format P1, R100): every value of each is legal (R130). -/
structure SingleParam where
  byteIndex : Fin 8
  lsb : BitVec 3
  widthMask : Byte
  deriving DecidableEq, Repr

/-- The parameters of a two-byte field (format P2, R101): the high part, the low part, and the shift that joins them. -/
structure PairParam where
  hi : SingleParam
  lo : SingleParam
  shift : BitVec 4
  deriving DecidableEq, Repr

/-- The fifteen logical fields of the heartbeat buffer, in table order (20_memory.md R70). -/
inductive Field where
  | hour
  | minute
  | second
  | day
  | month
  | year
  | tournamentType
  | systemWatchdog
  | testMode
  | autonomous
  | enabled
  | redAlliance
  | replayNumber
  | matchNumber
  | matchTimeSeconds
  deriving DecidableEq, Repr

/-- The four units (R1); `op[7:6]` names them (R91). -/
inductive BlockUnit where
  | primitives
  | identifier
  | heartbeat
  | dispatcher
  deriving DecidableEq, Repr

/-- A command of the block (R108). Operands a command does not use are not part of it (R92). -/
inductive Instr where
  /-- `XS` (R131): `extract_single`. -/
  | xs (p : SingleParam)
  /-- `IS` (R134): `insert_single`. -/
  | is (p : SingleParam) (value : U32)
  /-- `XP` (R132): `extract_pair`. -/
  | xp (p : PairParam)
  /-- `IP` (R135): `insert_pair`. -/
  | ip (p : PairParam) (value : U32)
  /-- `ID_ENCODE` (R151). -/
  | idEncode (deviceType manufacturer api deviceNumber : U32)
  /-- `ID_DECODE` (R152). -/
  | idDecode (id : U32)
  /-- `ID_FROM_RAW` (R153). -/
  | idFromRaw (id : U32)
  /-- `HB_GET_HOUR` (R175). -/
  | hbGetHour
  /-- `HB_GET_MINUTE` (R176). -/
  | hbGetMinute
  /-- `HB_GET_SECOND` (R177). -/
  | hbGetSecond
  /-- `HB_GET_DAY` (R178). -/
  | hbGetDay
  /-- `HB_GET_MONTH` (R179). -/
  | hbGetMonth
  /-- `HB_GET_YEAR` (R180). -/
  | hbGetYear
  /-- `HB_GET_TOURNAMENT_TYPE` (R181). -/
  | hbGetTournamentType
  /-- `HB_GET_SYSTEM_WATCHDOG` (R182). -/
  | hbGetSystemWatchdog
  /-- `HB_GET_TEST_MODE` (R183). -/
  | hbGetTestMode
  /-- `HB_GET_AUTONOMOUS` (R184). -/
  | hbGetAutonomous
  /-- `HB_GET_ENABLED` (R185). -/
  | hbGetEnabled
  /-- `HB_GET_RED_ALLIANCE` (R186). -/
  | hbGetRedAlliance
  /-- `HB_GET_REPLAY_NUMBER` (R187). -/
  | hbGetReplayNumber
  /-- `HB_GET_MATCH_NUMBER` (R188). -/
  | hbGetMatchNumber
  /-- `HB_GET_MATCH_TIME_SECONDS` (R189). -/
  | hbGetMatchTimeSeconds
  /-- `HB_CLEAR` (R205). -/
  | hbClear
  /-- `HB_LOAD` (R206). -/
  | hbLoad (word0 word1 : U32)
  /-- `HB_READ` (R207). -/
  | hbRead
  /-- `HB_SET_HOUR` (R190). -/
  | hbSetHour (value : U32)
  /-- `HB_SET_MINUTE` (R191). -/
  | hbSetMinute (value : U32)
  /-- `HB_SET_SECOND` (R192). -/
  | hbSetSecond (value : U32)
  /-- `HB_SET_DAY` (R193). -/
  | hbSetDay (value : U32)
  /-- `HB_SET_MONTH` (R194). -/
  | hbSetMonth (value : U32)
  /-- `HB_SET_YEAR` (R195). -/
  | hbSetYear (value : U32)
  /-- `HB_SET_TOURNAMENT_TYPE` (R196). -/
  | hbSetTournamentType (value : U32)
  /-- `HB_SET_SYSTEM_WATCHDOG` (R197). -/
  | hbSetSystemWatchdog (value : U32)
  /-- `HB_SET_TEST_MODE` (R198). -/
  | hbSetTestMode (value : U32)
  /-- `HB_SET_AUTONOMOUS` (R199). -/
  | hbSetAutonomous (value : U32)
  /-- `HB_SET_ENABLED` (R200). -/
  | hbSetEnabled (value : U32)
  /-- `HB_SET_RED_ALLIANCE` (R201). -/
  | hbSetRedAlliance (value : U32)
  /-- `HB_SET_REPLAY_NUMBER` (R202). -/
  | hbSetReplayNumber (value : U32)
  /-- `HB_SET_MATCH_NUMBER` (R203). -/
  | hbSetMatchNumber (value : U32)
  /-- `HB_SET_MATCH_TIME_SECONDS` (R204). -/
  | hbSetMatchTimeSeconds (value : U32)
  /-- `REG_HANDLER` (R236). -/
  | regHandler (id hid : U32)
  /-- `REG_RTR_HANDLER` (R238). -/
  | regRtrHandler (id hid : U32)
  /-- `REG_UNMATCHED` (R239). -/
  | regUnmatched (hid : U32)
  /-- `REG_TIMEOUT` (R240). -/
  | regTimeout (hid : U32)
  /-- `REG_ITERATION` (R241). -/
  | regIteration (hid : U32)
  /-- `STEP` (R245). -/
  | step
  deriving DecidableEq, Repr

/-- The unit a command belongs to (R2, R91). -/
def Instr.unit : Instr → BlockUnit
  | .xs _ => .primitives
  | .is _ _ => .primitives
  | .xp _ => .primitives
  | .ip _ _ => .primitives
  | .idEncode _ _ _ _ => .identifier
  | .idDecode _ => .identifier
  | .idFromRaw _ => .identifier
  | .hbGetHour => .heartbeat
  | .hbGetMinute => .heartbeat
  | .hbGetSecond => .heartbeat
  | .hbGetDay => .heartbeat
  | .hbGetMonth => .heartbeat
  | .hbGetYear => .heartbeat
  | .hbGetTournamentType => .heartbeat
  | .hbGetSystemWatchdog => .heartbeat
  | .hbGetTestMode => .heartbeat
  | .hbGetAutonomous => .heartbeat
  | .hbGetEnabled => .heartbeat
  | .hbGetRedAlliance => .heartbeat
  | .hbGetReplayNumber => .heartbeat
  | .hbGetMatchNumber => .heartbeat
  | .hbGetMatchTimeSeconds => .heartbeat
  | .hbClear => .heartbeat
  | .hbLoad _ _ => .heartbeat
  | .hbRead => .heartbeat
  | .hbSetHour _ => .heartbeat
  | .hbSetMinute _ => .heartbeat
  | .hbSetSecond _ => .heartbeat
  | .hbSetDay _ => .heartbeat
  | .hbSetMonth _ => .heartbeat
  | .hbSetYear _ => .heartbeat
  | .hbSetTournamentType _ => .heartbeat
  | .hbSetSystemWatchdog _ => .heartbeat
  | .hbSetTestMode _ => .heartbeat
  | .hbSetAutonomous _ => .heartbeat
  | .hbSetEnabled _ => .heartbeat
  | .hbSetRedAlliance _ => .heartbeat
  | .hbSetReplayNumber _ => .heartbeat
  | .hbSetMatchNumber _ => .heartbeat
  | .hbSetMatchTimeSeconds _ => .heartbeat
  | .regHandler _ _ => .dispatcher
  | .regRtrHandler _ _ => .dispatcher
  | .regUnmatched _ => .dispatcher
  | .regTimeout _ => .dispatcher
  | .regIteration _ => .dispatcher
  | .step => .dispatcher

/-- The getter command of a field (R104, R108). -/
def Field.getter : Field → Instr
  | .hour => .hbGetHour
  | .minute => .hbGetMinute
  | .second => .hbGetSecond
  | .day => .hbGetDay
  | .month => .hbGetMonth
  | .year => .hbGetYear
  | .tournamentType => .hbGetTournamentType
  | .systemWatchdog => .hbGetSystemWatchdog
  | .testMode => .hbGetTestMode
  | .autonomous => .hbGetAutonomous
  | .enabled => .hbGetEnabled
  | .redAlliance => .hbGetRedAlliance
  | .replayNumber => .hbGetReplayNumber
  | .matchNumber => .hbGetMatchNumber
  | .matchTimeSeconds => .hbGetMatchTimeSeconds

/-- The setter command of a field (R104, R108). -/
def Field.setter (f : Field) (value : U32) : Instr :=
  match f with
  | .hour => .hbSetHour value
  | .minute => .hbSetMinute value
  | .second => .hbSetSecond value
  | .day => .hbSetDay value
  | .month => .hbSetMonth value
  | .year => .hbSetYear value
  | .tournamentType => .hbSetTournamentType value
  | .systemWatchdog => .hbSetSystemWatchdog value
  | .testMode => .hbSetTestMode value
  | .autonomous => .hbSetAutonomous value
  | .enabled => .hbSetEnabled value
  | .redAlliance => .hbSetRedAlliance value
  | .replayNumber => .hbSetReplayNumber value
  | .matchNumber => .hbSetMatchNumber value
  | .matchTimeSeconds => .hbSetMatchTimeSeconds value

/-- The five fields of a command word (R90). -/
structure Cmd where
  op : Byte
  a0 : U32
  a1 : U32
  a2 : U32
  a3 : U32
  deriving DecidableEq, Repr

end Sys2Proof
end

