-- ==== Sys2Proof/WellFormed.lean ====
section
/-! DEFINITION. The checks the spec puts on data: which opcodes are listed (R108, R112), which primitive parameters describe
a field inside its bytes (R137, R171). An instruction itself cannot be ill-formed: every value of every operand is legal
(R114, R130), so its well-formedness is that of its opcode. -/

namespace Sys2Proof

/-- The 46 opcodes of the opcode map (R108). -/
def listedOpcodes : List Byte :=
  [0x00#8, 0x01#8, 0x02#8, 0x03#8, 0x40#8, 0x41#8, 0x42#8] ++
  [0x80#8, 0x81#8, 0x82#8, 0x83#8, 0x84#8, 0x85#8, 0x86#8, 0x87#8,
   0x88#8, 0x89#8, 0x8A#8, 0x8B#8, 0x8C#8, 0x8D#8, 0x8E#8] ++
  [0x90#8, 0x91#8, 0x92#8] ++
  [0xA0#8, 0xA1#8, 0xA2#8, 0xA3#8, 0xA4#8, 0xA5#8, 0xA6#8, 0xA7#8,
   0xA8#8, 0xA9#8, 0xAA#8, 0xAB#8, 0xAC#8, 0xAD#8, 0xAE#8] ++
  [0xC0#8, 0xC1#8, 0xC2#8, 0xC3#8, 0xC4#8, 0xC8#8]

/-- A command word is well formed when its opcode is listed; its operands are never illegal (R112, R114). -/
def Cmd.wellFormed (c : Cmd) : Bool :=
  listedOpcodes.contains c.op

/-- The opcode number of an instruction has its unit in bits 7:6 (R91). -/
def BlockUnit.code : BlockUnit → BitVec 2
  | .primitives => 0b00#2
  | .identifier => 0b01#2
  | .heartbeat => 0b10#2
  | .dispatcher => 0b11#2

/-- The mask of a field of width `w` bits: `2^w - 1` (R17). -/
def maskOfWidth (w : Nat) : Byte :=
  BitVec.ofNat 8 (2 ^ w - 1)

/-- The parameters describe a field of `w` bits that lies inside its byte (the premise of R137; the closing sentence of
R171). -/
def SingleParam.fits (p : SingleParam) (w : Nat) : Bool :=
  decide (p.widthMask = maskOfWidth w) && decide (w + p.lsb.toNat ≤ 8)

/-- The bit ranges of the two halves of a pair with `wHi` high bits share no bit of the buffer (R137). -/
def PairParam.disjoint (p : PairParam) (wHi : Nat) : Bool :=
  decide (p.hi.byteIndex ≠ p.lo.byteIndex) || decide (wHi = 0) || decide (p.shift = 0) ||
    decide (p.hi.lsb.toNat + wHi ≤ p.lo.lsb.toNat) || decide (p.lo.lsb.toNat + p.shift.toNat ≤ p.hi.lsb.toNat)

/-- The parameters describe a two-byte field with `wHi` high bits whose halves lie inside their bytes, do not overlap in the
value, and do not share a bit of the buffer (the premise of R137). -/
def PairParam.fits (p : PairParam) (wHi : Nat) : Bool :=
  p.hi.fits wHi && p.lo.fits p.shift.toNat && p.disjoint wHi

end Sys2Proof
end

