-- ==== Sys2Proof/Decode.lean ====
section
/-! DEFINITION. The decoder, total on every 136-bit word and rejecting by name, and the encoder written from the same
tables (30_encoding.md R90 to R108). -/

namespace Sys2Proof

/-- Why a command word is no command. -/
inductive DecodeError where
  /-- The opcode selects no command (R112): the block answers `BADOP`. -/
  | noSuchCommand (op : Byte)
  deriving DecidableEq, Repr

/-- The fields of a command word: `op` in bits 135:128, `a0` in 127:96, `a1` in 95:64, `a2` in 63:32, `a3` in 31:0 (R90). -/
def Cmd.ofWord (w : PortWord) : Cmd where
  op := w.extractLsb' 128 8
  a0 := w.extractLsb' 96 32
  a1 := w.extractLsb' 64 32
  a2 := w.extractLsb' 32 32
  a3 := w.extractLsb' 0 32

/-- The command word with the given fields (R90). -/
def Cmd.toWord (c : Cmd) : PortWord :=
  c.op ++ c.a0 ++ c.a1 ++ c.a2 ++ c.a3

/-- Format P1 (R100): `a0[13:11]` byte_index, `a0[10:8]` lsb, `a0[7:0]` width_mask; `a0[31:14]` is ignored. -/
def unpackSingle (a0 : U32) : SingleParam where
  byteIndex := (a0.extractLsb' 11 3).toFin
  lsb := a0.extractLsb' 8 3
  widthMask := a0.extractLsb' 0 8

/-- Format P1 (R100), the ignored bits written as zero. -/
def packSingle (p : SingleParam) : U32 :=
  (0#18) ++ (BitVec.ofFin p.byteIndex : BitVec 3) ++ p.lsb ++ p.widthMask

/-- Format P2 (R101): `a0[31:29]` byte_hi, `[28:26]` lsb_hi, `[25:18]` mask_hi, `[17:15]` byte_lo, `[14:12]` lsb_lo,
`[11:4]` mask_lo, `[3:0]` shift. -/
def unpackPair (a0 : U32) : PairParam where
  hi := { byteIndex := (a0.extractLsb' 29 3).toFin, lsb := a0.extractLsb' 26 3, widthMask := a0.extractLsb' 18 8 }
  lo := { byteIndex := (a0.extractLsb' 15 3).toFin, lsb := a0.extractLsb' 12 3, widthMask := a0.extractLsb' 4 8 }
  shift := a0.extractLsb' 0 4

/-- Format P2 (R101). -/
def packPair (p : PairParam) : U32 :=
  (BitVec.ofFin p.hi.byteIndex : BitVec 3) ++ p.hi.lsb ++ p.hi.widthMask ++
    (BitVec.ofFin p.lo.byteIndex : BitVec 3) ++ p.lo.lsb ++ p.lo.widthMask ++ p.shift

/-- The command that the fields of a command word select: the opcode alone selects it (R90, R108), the operands follow its
format (R100 to R107), and an opcode that the map does not list is rejected (R112). -/
def decodeCmd (c : Cmd) : Except DecodeError Instr :=
  match c.op with
  | 0x00#8 => .ok (.xs (unpackSingle c.a0))
  | 0x01#8 => .ok (.is (unpackSingle c.a0) c.a1)
  | 0x02#8 => .ok (.xp (unpackPair c.a0))
  | 0x03#8 => .ok (.ip (unpackPair c.a0) c.a1)
  | 0x40#8 => .ok (.idEncode c.a0 c.a1 c.a2 c.a3)
  | 0x41#8 => .ok (.idDecode c.a0)
  | 0x42#8 => .ok (.idFromRaw c.a0)
  | 0x80#8 => .ok .hbGetHour
  | 0x81#8 => .ok .hbGetMinute
  | 0x82#8 => .ok .hbGetSecond
  | 0x83#8 => .ok .hbGetDay
  | 0x84#8 => .ok .hbGetMonth
  | 0x85#8 => .ok .hbGetYear
  | 0x86#8 => .ok .hbGetTournamentType
  | 0x87#8 => .ok .hbGetSystemWatchdog
  | 0x88#8 => .ok .hbGetTestMode
  | 0x89#8 => .ok .hbGetAutonomous
  | 0x8A#8 => .ok .hbGetEnabled
  | 0x8B#8 => .ok .hbGetRedAlliance
  | 0x8C#8 => .ok .hbGetReplayNumber
  | 0x8D#8 => .ok .hbGetMatchNumber
  | 0x8E#8 => .ok .hbGetMatchTimeSeconds
  | 0x90#8 => .ok .hbClear
  | 0x91#8 => .ok (.hbLoad c.a0 c.a1)
  | 0x92#8 => .ok .hbRead
  | 0xA0#8 => .ok (.hbSetHour c.a0)
  | 0xA1#8 => .ok (.hbSetMinute c.a0)
  | 0xA2#8 => .ok (.hbSetSecond c.a0)
  | 0xA3#8 => .ok (.hbSetDay c.a0)
  | 0xA4#8 => .ok (.hbSetMonth c.a0)
  | 0xA5#8 => .ok (.hbSetYear c.a0)
  | 0xA6#8 => .ok (.hbSetTournamentType c.a0)
  | 0xA7#8 => .ok (.hbSetSystemWatchdog c.a0)
  | 0xA8#8 => .ok (.hbSetTestMode c.a0)
  | 0xA9#8 => .ok (.hbSetAutonomous c.a0)
  | 0xAA#8 => .ok (.hbSetEnabled c.a0)
  | 0xAB#8 => .ok (.hbSetRedAlliance c.a0)
  | 0xAC#8 => .ok (.hbSetReplayNumber c.a0)
  | 0xAD#8 => .ok (.hbSetMatchNumber c.a0)
  | 0xAE#8 => .ok (.hbSetMatchTimeSeconds c.a0)
  | 0xC0#8 => .ok (.regHandler c.a0 c.a1)
  | 0xC1#8 => .ok (.regRtrHandler c.a0 c.a1)
  | 0xC2#8 => .ok (.regUnmatched c.a0)
  | 0xC3#8 => .ok (.regTimeout c.a0)
  | 0xC4#8 => .ok (.regIteration c.a0)
  | 0xC8#8 => .ok .step
  | op => .error (.noSuchCommand op)

/-- The decoder: total on every command word. -/
def decode (w : PortWord) : Except DecodeError Instr :=
  decodeCmd (Cmd.ofWord w)

/-- The fields of the command word of an instruction (R100 to R108); bits the command ignores are zero. -/
def encodeCmd : Instr → Cmd
  | .xs p => ⟨0x00#8, packSingle p, 0, 0, 0⟩
  | .is p v => ⟨0x01#8, packSingle p, v, 0, 0⟩
  | .xp p => ⟨0x02#8, packPair p, 0, 0, 0⟩
  | .ip p v => ⟨0x03#8, packPair p, v, 0, 0⟩
  | .idEncode dt mf api dn => ⟨0x40#8, dt, mf, api, dn⟩
  | .idDecode id => ⟨0x41#8, id, 0, 0, 0⟩
  | .idFromRaw id => ⟨0x42#8, id, 0, 0, 0⟩
  | .hbGetHour => ⟨0x80#8, 0, 0, 0, 0⟩
  | .hbGetMinute => ⟨0x81#8, 0, 0, 0, 0⟩
  | .hbGetSecond => ⟨0x82#8, 0, 0, 0, 0⟩
  | .hbGetDay => ⟨0x83#8, 0, 0, 0, 0⟩
  | .hbGetMonth => ⟨0x84#8, 0, 0, 0, 0⟩
  | .hbGetYear => ⟨0x85#8, 0, 0, 0, 0⟩
  | .hbGetTournamentType => ⟨0x86#8, 0, 0, 0, 0⟩
  | .hbGetSystemWatchdog => ⟨0x87#8, 0, 0, 0, 0⟩
  | .hbGetTestMode => ⟨0x88#8, 0, 0, 0, 0⟩
  | .hbGetAutonomous => ⟨0x89#8, 0, 0, 0, 0⟩
  | .hbGetEnabled => ⟨0x8A#8, 0, 0, 0, 0⟩
  | .hbGetRedAlliance => ⟨0x8B#8, 0, 0, 0, 0⟩
  | .hbGetReplayNumber => ⟨0x8C#8, 0, 0, 0, 0⟩
  | .hbGetMatchNumber => ⟨0x8D#8, 0, 0, 0, 0⟩
  | .hbGetMatchTimeSeconds => ⟨0x8E#8, 0, 0, 0, 0⟩
  | .hbClear => ⟨0x90#8, 0, 0, 0, 0⟩
  | .hbLoad w0 w1 => ⟨0x91#8, w0, w1, 0, 0⟩
  | .hbRead => ⟨0x92#8, 0, 0, 0, 0⟩
  | .hbSetHour v => ⟨0xA0#8, v, 0, 0, 0⟩
  | .hbSetMinute v => ⟨0xA1#8, v, 0, 0, 0⟩
  | .hbSetSecond v => ⟨0xA2#8, v, 0, 0, 0⟩
  | .hbSetDay v => ⟨0xA3#8, v, 0, 0, 0⟩
  | .hbSetMonth v => ⟨0xA4#8, v, 0, 0, 0⟩
  | .hbSetYear v => ⟨0xA5#8, v, 0, 0, 0⟩
  | .hbSetTournamentType v => ⟨0xA6#8, v, 0, 0, 0⟩
  | .hbSetSystemWatchdog v => ⟨0xA7#8, v, 0, 0, 0⟩
  | .hbSetTestMode v => ⟨0xA8#8, v, 0, 0, 0⟩
  | .hbSetAutonomous v => ⟨0xA9#8, v, 0, 0, 0⟩
  | .hbSetEnabled v => ⟨0xAA#8, v, 0, 0, 0⟩
  | .hbSetRedAlliance v => ⟨0xAB#8, v, 0, 0, 0⟩
  | .hbSetReplayNumber v => ⟨0xAC#8, v, 0, 0, 0⟩
  | .hbSetMatchNumber v => ⟨0xAD#8, v, 0, 0, 0⟩
  | .hbSetMatchTimeSeconds v => ⟨0xAE#8, v, 0, 0, 0⟩
  | .regHandler id hid => ⟨0xC0#8, id, hid, 0, 0⟩
  | .regRtrHandler id hid => ⟨0xC1#8, id, hid, 0, 0⟩
  | .regUnmatched hid => ⟨0xC2#8, hid, 0, 0, 0⟩
  | .regTimeout hid => ⟨0xC3#8, hid, 0, 0, 0⟩
  | .regIteration hid => ⟨0xC4#8, hid, 0, 0, 0⟩
  | .step => ⟨0xC8#8, 0, 0, 0, 0⟩

/-- The encoder: the command word of an instruction. -/
def encode (i : Instr) : PortWord :=
  (encodeCmd i).toWord

/-- The operand bits an instruction's format reads, as masks over `a0` to `a3` (R92, R100 to R107, R113); `op` is always
read (R90). -/
def usedFields : Instr → Cmd
  | .xs _ => ⟨0xFF#8, 0x3FFF#32, 0, 0, 0⟩
  | .is _ _ => ⟨0xFF#8, 0x3FFF#32, 0xFFFFFFFF#32, 0, 0⟩
  | .xp _ => ⟨0xFF#8, 0xFFFFFFFF#32, 0, 0, 0⟩
  | .ip _ _ => ⟨0xFF#8, 0xFFFFFFFF#32, 0xFFFFFFFF#32, 0, 0⟩
  | .idEncode _ _ _ _ => ⟨0xFF#8, 0xFFFFFFFF#32, 0xFFFFFFFF#32, 0xFFFFFFFF#32, 0xFFFFFFFF#32⟩
  | .idDecode _ => ⟨0xFF#8, 0xFFFFFFFF#32, 0, 0, 0⟩
  | .idFromRaw _ => ⟨0xFF#8, 0xFFFFFFFF#32, 0, 0, 0⟩
  | .hbGetHour => ⟨0xFF#8, 0, 0, 0, 0⟩
  | .hbGetMinute => ⟨0xFF#8, 0, 0, 0, 0⟩
  | .hbGetSecond => ⟨0xFF#8, 0, 0, 0, 0⟩
  | .hbGetDay => ⟨0xFF#8, 0, 0, 0, 0⟩
  | .hbGetMonth => ⟨0xFF#8, 0, 0, 0, 0⟩
  | .hbGetYear => ⟨0xFF#8, 0, 0, 0, 0⟩
  | .hbGetTournamentType => ⟨0xFF#8, 0, 0, 0, 0⟩
  | .hbGetSystemWatchdog => ⟨0xFF#8, 0, 0, 0, 0⟩
  | .hbGetTestMode => ⟨0xFF#8, 0, 0, 0, 0⟩
  | .hbGetAutonomous => ⟨0xFF#8, 0, 0, 0, 0⟩
  | .hbGetEnabled => ⟨0xFF#8, 0, 0, 0, 0⟩
  | .hbGetRedAlliance => ⟨0xFF#8, 0, 0, 0, 0⟩
  | .hbGetReplayNumber => ⟨0xFF#8, 0, 0, 0, 0⟩
  | .hbGetMatchNumber => ⟨0xFF#8, 0, 0, 0, 0⟩
  | .hbGetMatchTimeSeconds => ⟨0xFF#8, 0, 0, 0, 0⟩
  | .hbClear => ⟨0xFF#8, 0, 0, 0, 0⟩
  | .hbLoad _ _ => ⟨0xFF#8, 0xFFFFFFFF#32, 0xFFFFFFFF#32, 0, 0⟩
  | .hbRead => ⟨0xFF#8, 0, 0, 0, 0⟩
  | .hbSetHour _ => ⟨0xFF#8, 0xFFFFFFFF#32, 0, 0, 0⟩
  | .hbSetMinute _ => ⟨0xFF#8, 0xFFFFFFFF#32, 0, 0, 0⟩
  | .hbSetSecond _ => ⟨0xFF#8, 0xFFFFFFFF#32, 0, 0, 0⟩
  | .hbSetDay _ => ⟨0xFF#8, 0xFFFFFFFF#32, 0, 0, 0⟩
  | .hbSetMonth _ => ⟨0xFF#8, 0xFFFFFFFF#32, 0, 0, 0⟩
  | .hbSetYear _ => ⟨0xFF#8, 0xFFFFFFFF#32, 0, 0, 0⟩
  | .hbSetTournamentType _ => ⟨0xFF#8, 0xFFFFFFFF#32, 0, 0, 0⟩
  | .hbSetSystemWatchdog _ => ⟨0xFF#8, 0xFFFFFFFF#32, 0, 0, 0⟩
  | .hbSetTestMode _ => ⟨0xFF#8, 0xFFFFFFFF#32, 0, 0, 0⟩
  | .hbSetAutonomous _ => ⟨0xFF#8, 0xFFFFFFFF#32, 0, 0, 0⟩
  | .hbSetEnabled _ => ⟨0xFF#8, 0xFFFFFFFF#32, 0, 0, 0⟩
  | .hbSetRedAlliance _ => ⟨0xFF#8, 0xFFFFFFFF#32, 0, 0, 0⟩
  | .hbSetReplayNumber _ => ⟨0xFF#8, 0xFFFFFFFF#32, 0, 0, 0⟩
  | .hbSetMatchNumber _ => ⟨0xFF#8, 0xFFFFFFFF#32, 0, 0, 0⟩
  | .hbSetMatchTimeSeconds _ => ⟨0xFF#8, 0xFFFFFFFF#32, 0, 0, 0⟩
  | .regHandler _ _ => ⟨0xFF#8, 0xFFFFFFFF#32, 0xFFFFFFFF#32, 0, 0⟩
  | .regRtrHandler _ _ => ⟨0xFF#8, 0xFFFFFFFF#32, 0xFFFFFFFF#32, 0, 0⟩
  | .regUnmatched _ => ⟨0xFF#8, 0xFFFFFFFF#32, 0, 0, 0⟩
  | .regTimeout _ => ⟨0xFF#8, 0xFFFFFFFF#32, 0, 0, 0⟩
  | .regIteration _ => ⟨0xFF#8, 0xFFFFFFFF#32, 0, 0, 0⟩
  | .step => ⟨0xFF#8, 0, 0, 0, 0⟩

/-- The bits of a command word that the instruction it decodes to depends on. -/
def usedBits (i : Instr) : PortWord :=
  (usedFields i).toWord

/-- The word whose low `nbits` bits are those of `w`, and whose other bits are 0. The command word is one word, bit 0 its
least significant bit (R10, R90), so it needs no byte order. -/
def tableWord (nbits w : Nat) : PortWord :=
  BitVec.ofNat 136 (w % 2 ^ nbits)

/-- The instruction the decoder reads from a row of the opcode table. -/
def decodeTableWord (nbits w : Nat) : Option Instr :=
  match decode (tableWord nbits w) with
  | .ok i => some i
  | .error _ => none

end Sys2Proof
end

