-- ==== Sys2Proof/Config.lean ====
section
/-! DEFINITION. What an implementation fixes (00_scope.md R7, R8). The parameters the source leaves open have no body
here: nothing can be proved of their values, so a claim about the state after reset holds for every value of them. -/

namespace Sys2Proof.Config

/-- The level of the configuration input `DRAIN_QUEUE` at power-on (R8, R29; open, D18). Log entry 2. -/
opaque drainQueueInput : Bool

/-- The configuration input `TIMEOUT` at power-on, an uninterpreted duration (R8, R29; open, D17). Log entries 2, 3. -/
opaque timeoutInput : Nat

/-- `CAP_DATA`: a natural number, or `none` for unbounded (R8; open, D15). Log entry 2. -/
opaque capData : Option Nat

/-- `CAP_RTR`: a natural number, or `none` for unbounded (R8; open, D15). Log entry 2. -/
opaque capRtr : Option Nat

/-- `CAP_ITER`: a natural number, or `none` for unbounded (R8; open, D15). Log entry 2. -/
opaque capIter : Option Nat

/-- `FALLBACK_SENDS` has the default 1 (R8, D19). -/
def fallbackSendsDefault : Bool := true

/-- `HEARTBEAT_ID` (R7, R72). -/
def heartbeatId : U32 := 0x01011840#32

/-- `HB_BYTES` (R7). -/
def hbBytes : Nat := 8

/-- `PAYLOAD_MAX` (R7). -/
def payloadMax : Nat := 8

end Sys2Proof.Config
end

