-- ==== Sys2Proof/Machine/State.lean ====
section
/-! DEFINITION. The state of the block as plain data (10_state.md R44), the data its ports carry (30_encoding.md R90, R95
to R98), and the state after reset (10_state.md R45). What the environment will answer is data too: a list for each port, so
that a statement about every state is a statement about every answer (43_dispatcher.md R260). -/

namespace Sys2Proof.Machine

/-- Nothing stops this machine: a command always answers with a status (60_exceptions.md R290), so no fault exists. -/
inductive Fault : Type
  deriving DecidableEq, Repr

/-- Why a command has no meaning here. -/
inductive Refusal where
  /-- Raised by an arm of `exec` that has no meaning yet; no arm raises it now. Safe: the machine stops. -/
  | notModelled (mnemonic : String)
  deriving DecidableEq, Repr

/-- The heartbeat buffer `HB`: eight bytes, `HB[0]` first (R20). -/
structure HBuf where
  b0 : Byte
  b1 : Byte
  b2 : Byte
  b3 : Byte
  b4 : Byte
  b5 : Byte
  b6 : Byte
  b7 : Byte
  deriving DecidableEq, Repr

/-- A `CanFrame` as the record on the ports (R95, R96): `len` bytes of `data` are the payload, byte 0 in bits 63:56. -/
structure CanFrame where
  identifier : U32
  extended : Bool
  isRemoteRequest : Bool
  len : BitVec 4
  data : BitVec 64
  deriving DecidableEq, Repr

/-- One valid entry of a handler table (R24). -/
structure Entry where
  key : U32
  hid : U32
  deriving DecidableEq, Repr

/-- The unmatched-handler slot and the timeout-handler slot (R26, R27). -/
structure Slot where
  valid : Bool
  hid : U32
  deriving DecidableEq, Repr

/-- The dispatcher's state-machine register (R30). -/
inductive Phase where
  | idle
  | wait
  | dispatch
  | tmout
  | iterate
  | faulted
  deriving DecidableEq, Repr

/-- The kinds of callback invocation (R97). -/
inductive CbKind where
  | data
  | rtr
  | unmatched
  | timeout
  | iter
  deriving DecidableEq, Repr

/-- The request record on the callback port (R97); `arg = none` is `has_frame = 0`. -/
structure CbRequest where
  kind : CbKind
  hid : U32
  arg : Option CanFrame
  deriving DecidableEq, Repr

/-- The answer of an invocation (R13): `Ret(None)`, `Ret(Some g)` or `Fault`. -/
inductive Answer where
  | ret (frame : Option CanFrame)
  | fault
  deriving DecidableEq, Repr

/-- The response record on the callback port, as its bits are (R97). -/
structure CbResponse where
  fault : Bool
  hasFrame : Bool
  frame : CanFrame
  deriving DecidableEq, Repr

/-- The response record of `receive` on the transport port (R98). -/
structure RecvResponse where
  hasFrame : Bool
  frame : CanFrame
  deriving DecidableEq, Repr

/-- What the callback agent does while an invocation is outstanding (R41): issue a command, or answer. -/
inductive CbEvent where
  | command (w : PortWord)
  | answer (r : CbResponse)
  deriving DecidableEq, Repr

/-- The status codes (R37, R290). -/
inductive Status where
  | ok
  | dup
  | full
  | busy
  | faulted
  | badop
  deriving DecidableEq, Repr

/-- A response on the command port (R90). -/
structure Rsp where
  status : Status
  r0 : U32
  r1 : U32
  r2 : U32
  r3 : U32
  deriving DecidableEq, Repr

/-- An entry of the event trace (R262). -/
inductive Event where
  | recv (r : Option CanFrame)
  | pending (p : Bool)
  | invoke (req : CbRequest) (ans : Answer)
  | send (f : CanFrame)
  deriving DecidableEq, Repr

/-- The one request the block has outstanding on the transport port or the callback port, if any: what a `STEP` in progress
is waiting for (R304, R307, R329). Log entry 6. -/
inductive Await where
  | none
  | receive (timeout : Nat)
  | hasPending
  | callback (req : CbRequest)
  deriving DecidableEq, Repr

/-- The configuration inputs that reset samples (R45, R340). -/
structure Pins where
  drainQueue : Bool
  timeout : Nat
  deriving DecidableEq, Repr

/-- The parameters, constant after reset (R8, R29, R44). A capacity of `none` is unbounded. -/
structure Params where
  drainQueue : Bool
  timeout : Nat
  capData : Option Nat
  capRtr : Option Nat
  capIter : Option Nat
  fallbackSends : Bool
  deriving DecidableEq, Repr

/-- How many requests that a reset abandoned are still to be answered, on each port (R340, D34): the next so many answers there
are late ones and are ignored. Log entry 4. -/
structure Late where
  receive : Nat
  hasPending : Nat
  callback : Nat
  deriving DecidableEq, Repr

/-- The state: the record of R44 with the scratch registers of R31, the parameters, and what lies on the block's ports. -/
structure State where
  /-- `HB` (R20). -/
  hb : HBuf
  /-- `DATA_TABLE` (R24), keys strictly rising. -/
  dataTable : List Entry
  /-- `RTR_TABLE` (R25), keys strictly rising. -/
  rtrTable : List Entry
  /-- `UNM` (R26). -/
  unm : Slot
  /-- `TMO` (R27). -/
  tmo : Slot
  /-- `ITER`, in registration order (R28). -/
  iter : List U32
  /-- `phase` (R30). -/
  phase : Phase
  /-- `iter_idx` (R31). -/
  iterIdx : Nat
  /-- `cur` (R31). -/
  cur : CanFrame
  /-- The parameters (R8, R29). -/
  cfg : Params
  /-- The configuration inputs (R340, R345). -/
  pins : Pins
  /-- The reset request (R340). -/
  resetReq : Bool
  /-- The request outstanding on a port. -/
  await : Await
  /-- The requests abandoned by a reset whose answers are still to come (R340). -/
  late : Late
  /-- The command words the host presents, the next one first (R36, R90). -/
  cmds : List PortWord
  /-- The transport's answers to `receive`, the next one first (R98, R260). -/
  rx : List RecvResponse
  /-- The transport's answers to `has_pending`, the next one first (R98, R260). -/
  pend : List Bool
  /-- The callback agent's commands and answers, the next one first (R41, R97, R260). -/
  cb : List CbEvent
  /-- The responses returned on the command port, the first one first (R37, R90). -/
  rsps : List Rsp
  /-- The event trace, the first event first (R262). -/
  trace : List Event
  deriving DecidableEq, Repr

/-- The zeroed buffer (R45, R205). -/
def HBuf.zero : HBuf :=
  ⟨0, 0, 0, 0, 0, 0, 0, 0⟩

/-- The value of `cur` at reset, where R45 gives none. DESIGN CHOICE, unsafe, log entry 1: nothing reads it before a `STEP`
writes it. -/
def CanFrame.zero : CanFrame :=
  ⟨0, false, false, 0, 0⟩

/-- The state after reset (R45): buffer zero, tables and list empty, slots invalid, `IDLE`, the configuration inputs sampled;
no request, no input and no output yet. -/
def State.reset : State where
  hb := HBuf.zero
  dataTable := []
  rtrTable := []
  unm := { valid := false, hid := 0 }
  tmo := { valid := false, hid := 0 }
  iter := []
  phase := .idle
  iterIdx := 0
  cur := CanFrame.zero
  cfg :=
    { drainQueue := Config.drainQueueInput
      timeout := Config.timeoutInput
      capData := Config.capData
      capRtr := Config.capRtr
      capIter := Config.capIter
      fallbackSends := Config.fallbackSendsDefault }
  pins := { drainQueue := Config.drainQueueInput, timeout := Config.timeoutInput }
  resetReq := false
  await := .none
  late := { receive := 0, hasPending := 0, callback := 0 }
  cmds := []
  rx := []
  pend := []
  cb := []
  rsps := []
  trace := []

end Sys2Proof.Machine
end

