-- ==== Sys2Proof/Machine/Ops.lean ====
section
/-! DEFINITION. The named operations over the state: the buffer's bytes (R12, R20), the handler tables (R24, R252), the two
output ports, and the entry into, the return from and the failure of a callback, which are this block's form of taking an
exception (60_exceptions.md R304, R306, 43_dispatcher.md R250, R251). -/

namespace Sys2Proof.Machine

/-- `HB[i]` (R12). -/
def HBuf.get (h : HBuf) : Fin 8 → Byte
  | 0 => h.b0
  | 1 => h.b1
  | 2 => h.b2
  | 3 => h.b3
  | 4 => h.b4
  | 5 => h.b5
  | 6 => h.b6
  | 7 => h.b7

/-- `HB[i] <- v` (R12). -/
def HBuf.set (h : HBuf) (i : Fin 8) (v : Byte) : HBuf :=
  match i with
  | 0 => { h with b0 := v }
  | 1 => { h with b1 := v }
  | 2 => { h with b2 := v }
  | 3 => { h with b3 := v }
  | 4 => { h with b4 := v }
  | 5 => { h with b5 := v }
  | 6 => { h with b6 := v }
  | 7 => { h with b7 := v }

/-- The 64-bit view `W`: `HB[0]` in bits 63:56, `HB[7]` in bits 7:0 (R62). -/
def HBuf.word64 (h : HBuf) : BitVec 64 :=
  h.b0 ++ h.b1 ++ h.b2 ++ h.b3 ++ h.b4 ++ h.b5 ++ h.b6 ++ h.b7

/-- Word 0 of the whole-buffer commands: `HB[0] ++ HB[1] ++ HB[2] ++ HB[3]` (R64, R105). -/
def HBuf.word0 (h : HBuf) : U32 :=
  h.b0 ++ h.b1 ++ h.b2 ++ h.b3

/-- Word 1 of the whole-buffer commands: `HB[4] ++ HB[5] ++ HB[6] ++ HB[7]` (R64, R105). -/
def HBuf.word1 (h : HBuf) : U32 :=
  h.b4 ++ h.b5 ++ h.b6 ++ h.b7

/-- The buffer that `HB_LOAD` builds from its two operands (R206). -/
def HBuf.ofWords (a0 a1 : U32) : HBuf where
  b0 := a0.extractLsb' 24 8
  b1 := a0.extractLsb' 16 8
  b2 := a0.extractLsb' 8 8
  b3 := a0.extractLsb' 0 8
  b4 := a1.extractLsb' 24 8
  b5 := a1.extractLsb' 16 8
  b6 := a1.extractLsb' 8 8
  b7 := a1.extractLsb' 0 8

/-- The lookup `TABLE[k]`, all 32 bits of the key compared, `none` when the key is absent (R24, R252). -/
def lookup : List Entry → U32 → Option U32
  | [], _ => none
  | e :: t, k => if e.key = k then some e.hid else lookup t k

/-- A new entry put where the keys stay strictly rising: insertion order is irrelevant (R24). Log entry 5. -/
def insertEntry : List Entry → Entry → List Entry
  | [], e => [e]
  | x :: t, e => if e.key.toNat < x.key.toNat then e :: x :: t else x :: insertEntry t e

/-- The canonical form of a handler table: keys strictly rising, so keys are unique and equal maps are equal lists (R24). -/
def keysRise : List Entry → Bool
  | [] => true
  | [_] => true
  | x :: y :: t => decide (x.key.toNat < y.key.toNat) && keysRise (y :: t)

/-- A table or list of length `n` has reached its capacity (R236, R241); an unbounded one never does (D15). -/
def atCapacity (cap : Option Nat) (n : Nat) : Bool :=
  match cap with
  | none => false
  | some c => decide (n = c)

/-- A length is within a capacity (R24, R25, R28). -/
def withinCapacity (cap : Option Nat) (n : Nat) : Bool :=
  match cap with
  | none => true
  | some c => decide (n ≤ c)

/-- The state with the buffer replaced. -/
def State.withHb (s : State) (v : HBuf) : State :=
  { s with hb := v }

/-- The state with `DATA_TABLE` replaced. -/
def State.withDataTable (s : State) (v : List Entry) : State :=
  { s with dataTable := v }

/-- The state with `RTR_TABLE` replaced. -/
def State.withRtrTable (s : State) (v : List Entry) : State :=
  { s with rtrTable := v }

/-- The state with `UNM` replaced. -/
def State.withUnm (s : State) (v : Slot) : State :=
  { s with unm := v }

/-- The state with `TMO` replaced. -/
def State.withTmo (s : State) (v : Slot) : State :=
  { s with tmo := v }

/-- The state with `ITER` replaced. -/
def State.withIter (s : State) (v : List U32) : State :=
  { s with iter := v }

/-- The state with `phase` replaced. -/
def State.withPhase (s : State) (v : Phase) : State :=
  { s with phase := v }

/-- The state with `iter_idx` replaced. -/
def State.withIterIdx (s : State) (v : Nat) : State :=
  { s with iterIdx := v }

/-- The state with `cur` replaced. -/
def State.withCur (s : State) (v : CanFrame) : State :=
  { s with cur := v }

/-- The state with the outstanding request replaced. -/
def State.withAwait (s : State) (v : Await) : State :=
  { s with await := v }

/-- The state with the counts of late answers replaced. -/
def State.withLate (s : State) (v : Late) : State :=
  { s with late := v }

/-- The state with the host's pending commands replaced. -/
def State.withCmds (s : State) (v : List PortWord) : State :=
  { s with cmds := v }

/-- The state with the transport's answers to `receive` replaced. -/
def State.withRx (s : State) (v : List RecvResponse) : State :=
  { s with rx := v }

/-- The state with the transport's answers to `has_pending` replaced. -/
def State.withPend (s : State) (v : List Bool) : State :=
  { s with pend := v }

/-- The state with the callback agent's events replaced. -/
def State.withCb (s : State) (v : List CbEvent) : State :=
  { s with cb := v }

/-- What is left of the callback agent's events when one of its invocations is abandoned: everything up to and including its
answer is ignored (R340). Log entry 4. -/
def dropAbandoned : List CbEvent → List CbEvent
  | [] => []
  | .answer _ :: t => t
  | .command _ :: t => dropAbandoned t

/-- What is left when `n` invocations are abandoned. -/
def dropLate : Nat → List CbEvent → List CbEvent
  | 0, l => l
  | n + 1, l => dropLate n (dropAbandoned l)

/-- The answers to `receive` that count: those after the late ones (R340). -/
def State.rxDue (s : State) : List RecvResponse :=
  s.rx.drop s.late.receive

/-- The answers to `has_pending` that count: those after the late ones (R340). -/
def State.pendDue (s : State) : List Bool :=
  s.pend.drop s.late.hasPending

/-- The callback agent's events that count: those after the late ones (R340). -/
def State.cbDue (s : State) : List CbEvent :=
  dropLate s.late.callback s.cb

/-- An answer to `receive` is taken, the late ones before it ignored; `rest` is what then lies on the port. -/
def State.takeRx (s : State) (rest : List RecvResponse) : State :=
  (s.withRx rest).withLate { s.late with receive := 0 }

/-- An answer to `has_pending` is taken, the late ones before it ignored; `rest` is what then lies on the port. -/
def State.takePend (s : State) (rest : List Bool) : State :=
  (s.withPend rest).withLate { s.late with hasPending := 0 }

/-- An event of the callback agent is taken, the late ones before it ignored; `rest` is what then lies on the port. -/
def State.takeCb (s : State) (rest : List CbEvent) : State :=
  (s.withCb rest).withLate { s.late with callback := 0 }

/-- A response word goes out on the command port (R90). -/
def State.respond (s : State) (r : Rsp) : State :=
  { s with rsps := s.rsps ++ [r] }

/-- An event joins the trace (R262). -/
def State.log (s : State) (e : Event) : State :=
  { s with trace := s.trace ++ [e] }

/-- The response `OK` with its results; results a command does not produce are zero (R92). -/
def okRsp (r0 r1 r2 r3 : U32) : Rsp :=
  { status := .ok, r0 := r0, r1 := r1, r2 := r2, r3 := r3 }

/-- The response `OK` with no result (R92). -/
def okOnly : Rsp :=
  okRsp 0 0 0 0

/-- The response of a command that is turned away: a status, all results zero (R92). -/
def refusedRsp (st : Status) : Rsp :=
  { status := st, r0 := 0, r1 := 0, r2 := 0, r3 := 0 }

/-- A frame that an invocation of kind `k` returns is sent: always for a handler of a table and for an iteration callback,
and as `FALLBACK_SENDS` says for the unmatched-handler and the timeout-handler (R250). -/
def sendEnabled (cfg : Params) : CbKind → Bool
  | .data => true
  | .rtr => true
  | .unmatched => cfg.fallbackSends
  | .timeout => cfg.fallbackSends
  | .iter => true

/-- Callback entry (R304): the request record is presented on the callback port and the block waits. Nothing is saved and
nothing else changes. -/
def enterCallback (req : CbRequest) (s : State) : State :=
  s.withAwait (.callback req)

/-- Callback return (R250, R306): a returned frame is sent at once when sending is enabled for the kind. Nothing is restored,
since nothing was saved. -/
def sendReturned (k : CbKind) (g : Option CanFrame) (s : State) : State :=
  match g with
  | none => s
  | some f => if sendEnabled s.cfg k then s.log (.send f) else s

/-- Callback failure (R251): `phase <- FAULTED`, the `STEP` ends at once with status `FAULTED`, nothing is sent, and no
further callback runs. `iter_idx` and `cur` keep what was last written: R31 calls their values between steps unspecified and
unobservable. DESIGN CHOICE, log entry 16. -/
def failStep (s : State) : State :=
  ((s.withPhase .faulted).withAwait .none).respond (refusedRsp .faulted)

end Sys2Proof.Machine
end

