-- ==== Sys2Proof/Machine/Flags.lean ====
section
/-! DEFINITION. The block has no flags; what a command reports is its status (10_state.md R37). The codes of the status, of
`phase` and of the callback kinds, the response word, and the order in which a unit D command tests its conditions
(43_dispatcher.md R231, 60_exceptions.md R290, R302). -/

namespace Sys2Proof.Machine

/-- The 8-bit status codes (R37). -/
def Status.code : Status → Byte
  | .ok => 0x00#8
  | .dup => 0x01#8
  | .full => 0x02#8
  | .busy => 0x03#8
  | .faulted => 0x04#8
  | .badop => 0x05#8

/-- The 3-bit values of `phase` (R30); 5 and 6 are never taken. -/
def Phase.code : Phase → BitVec 3
  | .idle => 0#3
  | .wait => 1#3
  | .dispatch => 2#3
  | .tmout => 3#3
  | .iterate => 4#3
  | .faulted => 7#3

/-- The 3-bit kinds of the callback port (R97). -/
def CbKind.code : CbKind → BitVec 3
  | .data => 0#3
  | .rtr => 1#3
  | .unmatched => 2#3
  | .timeout => 3#3
  | .iter => 4#3

/-- The response word: status in bits 135:128, `r0` in 127:96, `r1` in 95:64, `r2` in 63:32, `r3` in 31:0 (R90). -/
def Rsp.toWord (r : Rsp) : PortWord :=
  r.status.code ++ r.r0 ++ r.r1 ++ r.r2 ++ r.r3

/-- A command turned away: its status, results zero, no state change (R92, R290). -/
def refuse (st : Status) (s : State) : State :=
  s.respond (refusedRsp st)

/-- `GUARD()` of every unit D command: `FAULTED`, else `BUSY` while a `STEP` is in progress, else the command's body (R231). -/
def guarded (body : State → State) (s : State) : State :=
  match s.phase with
  | .faulted => refuse .faulted s
  | .idle => body s
  | _ => refuse .busy s

/-- The two conditions of a registration under a key, after the guard: `DUP` before `FULL` (R236, R238, R302); else the entry
is stored by `store` and the status is `OK`. -/
def registerKey (table : List Entry) (cap : Option Nat) (e : Entry) (store : List Entry → State) (s : State) : State :=
  if (lookup table e.key).isSome then refuse .dup s
  else if atCapacity cap table.length then refuse .full s
  else (store (insertEntry table e)).respond okOnly

end Sys2Proof.Machine
end

