-- ==== Sys2Proof/Machine/Ports.lean ====
section
/-! DEFINITION. The records of the transport port and the callback port: how the block reads an answer, and the bits of each
record (30_encoding.md R96 to R98). -/

namespace Sys2Proof.Machine

/-- A one-bit field of a record. -/
def bit (b : Bool) : BitVec 1 :=
  if b then 1#1 else 0#1

/-- The answer a callback response stands for: `fault = 1` is `Fault` whatever the other fields hold (R97). -/
def CbResponse.meaning (r : CbResponse) : Answer :=
  if r.fault then .fault else if r.hasFrame then .ret (some r.frame) else .ret none

/-- The answer of `receive`: `has_frame = 0` is `None` (R98). -/
def RecvResponse.meaning (r : RecvResponse) : Option CanFrame :=
  if r.hasFrame then some r.frame else none

/-- The 102-bit frame record: `identifier` 101:70, `extended` 69, `is_remote_request` 68, `len` 67:64, `data` 63:0 (R96). -/
def CanFrame.toBits (f : CanFrame) : BitVec 102 :=
  f.identifier ++ bit f.extended ++ bit f.isRemoteRequest ++ f.len ++ f.data

/-- The frame a 102-bit record holds (R96). -/
def CanFrame.ofBits (w : BitVec 102) : CanFrame where
  identifier := w.extractLsb' 70 32
  extended := w.getLsbD 69
  isRemoteRequest := w.getLsbD 68
  len := w.extractLsb' 64 4
  data := w.extractLsb' 0 64

/-- Payload byte `i` of a frame: byte 0 in bits 63:56 of `data` (R96). -/
def CanFrame.payloadByte (f : CanFrame) (i : Nat) : Byte :=
  f.data.extractLsb' (8 * (7 - i)) 8

/-- Two frames are equal in the spec's sense: bytes at index `>= len` do not count (R96). -/
def CanFrame.same (f g : CanFrame) : Bool :=
  decide (f.identifier = g.identifier) && decide (f.extended = g.extended) &&
    decide (f.isRemoteRequest = g.isRemoteRequest) && decide (f.len = g.len) &&
    (List.range 8).all fun i => decide (f.len.toNat ≤ i) || decide (f.payloadByte i = g.payloadByte i)

/-- A conforming frame: length at most 8, an identifier as wide as its tag says, no payload on a remote request (R17, R95,
R96). The block checks none of it (R253). -/
def CanFrame.conforming (f : CanFrame) : Bool :=
  decide (f.len.toNat ≤ Config.payloadMax) &&
    decide (f.identifier.toNat < if f.extended then 2 ^ 29 else 2 ^ 11) &&
    (!f.isRemoteRequest || decide (f.len = 0))

/-- The frame field of a record whose `has_frame` is 0 carries no meaning; the block drives it to zero. DESIGN CHOICE, log
entry 10. That `has_frame` stands above the frame is log entry 17. -/
def optionalFrame (f : Option CanFrame) : BitVec 103 :=
  match f with
  | none => bit false ++ CanFrame.zero.toBits
  | some g => bit true ++ g.toBits

/-- The request record on the callback port: `kind`, `hid`, `has_frame`, `frame` (R97). R97 gives no bit positions; the first
listed field is the most significant. DESIGN CHOICE, log entry 17. -/
def CbRequest.toBits (r : CbRequest) : BitVec 138 :=
  r.kind.code ++ r.hid ++ optionalFrame r.arg

/-- The response record on the callback port: `fault`, `has_frame`, `frame` (R97). R97 gives no bit positions; the first listed
field is the most significant. DESIGN CHOICE, log entry 17. -/
def CbResponse.toBits (r : CbResponse) : BitVec 104 :=
  bit r.fault ++ bit r.hasFrame ++ r.frame.toBits

/-- The response record of `receive`: `has_frame`, `frame` (R98). R98 gives no bit positions; `has_frame` is the top bit. DESIGN
CHOICE, log entry 17. -/
def RecvResponse.toBits (r : RecvResponse) : BitVec 103 :=
  bit r.hasFrame ++ r.frame.toBits

/-- The frame that carries a heartbeat payload (R72, R117): `HEARTBEAT_ID`, extended, data frame, eight bytes. -/
def heartbeatFrame (word0 word1 : U32) : CanFrame where
  identifier := Config.heartbeatId
  extended := true
  isRemoteRequest := false
  len := 8
  data := word0 ++ word1

end Sys2Proof.Machine
end

