-- ==== Sys2Proof/Machine/Dispatcher.lean ====
section
/-! DEFINITION. Unit D: the five registrations and `STEP` (43_dispatcher.md). `STEP` is the state machine of R244: each
`advance` takes one answer of the environment and does everything the block does before it needs the next one. -/

namespace Sys2Proof.Machine

/-- `REG_HANDLER` (R236). -/
def execRegHandler (id hid : U32) (s : State) : Host.Outcome State Fault Refusal :=
  .next (guarded (registerKey s.dataTable s.cfg.capData ⟨id, hid⟩ s.withDataTable) s)

/-- `REG_RTR_HANDLER` (R238). -/
def execRegRtrHandler (id hid : U32) (s : State) : Host.Outcome State Fault Refusal :=
  .next (guarded (registerKey s.rtrTable s.cfg.capRtr ⟨id, hid⟩ s.withRtrTable) s)

/-- `REG_UNMATCHED` (R239). -/
def execRegUnmatched (hid : U32) (s : State) : Host.Outcome State Fault Refusal :=
  .next (guarded (fun s => (s.withUnm ⟨true, hid⟩).respond okOnly) s)

/-- `REG_TIMEOUT` (R240). -/
def execRegTimeout (hid : U32) (s : State) : Host.Outcome State Fault Refusal :=
  .next (guarded (fun s => (s.withTmo ⟨true, hid⟩).respond okOnly) s)

/-- The body of `REG_ITERATION` after its guard: `FULL`, or the tag appended (R241). -/
def appendIteration (hid : U32) (s : State) : State :=
  if atCapacity s.cfg.capIter s.iter.length then refuse .full s
  else (s.withIter (s.iter ++ [hid])).respond okOnly

/-- `REG_ITERATION` (R241). -/
def execRegIteration (hid : U32) (s : State) : Host.Outcome State Fault Refusal :=
  .next (guarded (appendIteration hid) s)

/-- The unmatched-handler, when one is set: the fallback of both tables (R239, R246). -/
def fallback (s : State) : Option (CbKind × U32) :=
  if s.unm.valid then some (.unmatched, s.unm.hid) else none

/-- The callback a frame is routed to: the entry of the table of the frame's own kind, else the unmatched-handler, else none
(R246). -/
def route (s : State) (f : CanFrame) : Option (CbKind × U32) :=
  match f.isRemoteRequest with
  | false =>
    match lookup s.dataTable f.identifier with
    | some h => some (.data, h)
    | none => fallback s
  | true =>
    match lookup s.rtrTable f.identifier with
    | some h => some (.rtr, h)
    | none => fallback s

/-- The step ran to its end: `phase <- IDLE`, status `OK` (R245). `iter_idx` and `cur` keep what was last written: R31 calls
their values between steps unspecified and unobservable. DESIGN CHOICE, log entry 16. -/
def endStep (s : State) : State :=
  ((s.withPhase .idle).withAwait .none).respond okOnly

/-- The iteration callback at `iter_idx` is invoked, or the step ends when there is none left (R245, R249). -/
def callIteration (s : State) : State :=
  match s.iter[s.iterIdx]? with
  | some h => enterCallback ⟨.iter, h, none⟩ s
  | none => endStep s

/-- The iteration phase begins (R249). -/
def enterIteration (s : State) : State :=
  callIteration ((s.withPhase .iterate).withIterIdx 0)

/-- After a frame was handled or dropped: in drain mode the transport is asked for more, else the loop ends (R247). -/
def afterFrame (s : State) : State :=
  if s.cfg.drainQueue then s.withAwait .hasPending else enterIteration s

/-- `HANDLE_FRAME(f)` (R246): the routed callback is invoked with the frame, or the frame is dropped (R254). -/
def handleFrame (f : CanFrame) (s : State) : State :=
  match route s f with
  | some (k, h) => enterCallback ⟨k, h, some f⟩ ((s.withPhase .dispatch).withCur f)
  | none => afterFrame ((s.withPhase .dispatch).withCur f)

/-- The timeout path (R248): the timeout-handler when one is set, else straight on to the iteration phase. -/
def handleTimeout (s : State) : State :=
  if s.tmo.valid then enterCallback ⟨.timeout, s.tmo.hid, none⟩ (s.withPhase .tmout)
  else enterIteration (s.withPhase .tmout)

/-- `T.receive` answered (R245): the first receive of a step chooses between frame and timeout; a later one that answers
`None` ends the drain loop and invokes no timeout-handler (R247). -/
def received (r : Option CanFrame) (s : State) : State :=
  match r with
  | some f => handleFrame f (s.log (.recv r))
  | none => if s.phase = .wait then handleTimeout (s.log (.recv r)) else enterIteration (s.log (.recv r))

/-- `T.has_pending` answered (R245, R247). -/
def pendingAnswered (p : Bool) (s : State) : State :=
  if p then (s.log (.pending p)).withAwait (.receive s.cfg.timeout) else enterIteration (s.log (.pending p))

/-- What follows a callback that returned, by the phase it ran in (R245). A callback runs in no other phase, so the last case
is not reached from reset. -/
def afterCallback (s : State) : State :=
  match s.phase with
  | .dispatch => afterFrame s
  | .tmout => enterIteration s
  | .iterate => callIteration (s.withIterIdx (s.iterIdx + 1))
  | _ => s.withAwait .none

/-- An invocation answered (R250, R251). -/
def callbackAnswered (req : CbRequest) (ans : Answer) (s : State) : State :=
  match ans with
  | .fault => failStep (s.log (.invoke req ans))
  | .ret g => afterCallback (sendReturned req.kind g (s.log (.invoke req ans)))

/-- One answer of the environment taken, and everything the block does before it needs another; `none` when no step is in
progress, when the answer has not come, or when the callback agent first issues a command of its own (R41, R244). Late answers of
abandoned requests are passed over (R340). -/
def advance (s : State) : Option State :=
  match s.await with
  | .none => none
  | .receive _ =>
    match s.rxDue with
    | [] => none
    | r :: rest => some (received r.meaning (s.takeRx rest))
  | .hasPending =>
    match s.pendDue with
    | [] => none
    | p :: rest => some (pendingAnswered p (s.takePend rest))
  | .callback req =>
    match s.cbDue with
    | .answer r :: rest => some (callbackAnswered req r.meaning (s.takeCb rest))
    | _ => none

/-- At most `n` advances. -/
def runFor : Nat → State → State
  | 0, s => s
  | n + 1, s =>
    match advance s with
    | none => s
    | some t => runFor n t

/-- How many answers and commands lie on the transport port and the callback port: every `advance` takes at least one. -/
def answersLeft (s : State) : Nat :=
  s.rx.length + s.pend.length + s.cb.length

/-- A step in progress goes on until it ends or waits on a port (R244, R329). -/
def resume (s : State) : State :=
  runFor (answersLeft s) s

/-- A `STEP` is accepted: `phase <- WAIT` and `T.receive(TIMEOUT)` is asked (R245). -/
def beginStep (s : State) : State :=
  (s.withPhase .wait).withAwait (.receive s.cfg.timeout)

/-- `STEP` (R245): the guard, then the step runs until it ends, or until it waits for an answer that has not come or for a
command of the callback agent. -/
def execStep (s : State) : Host.Outcome State Fault Refusal :=
  .next (guarded (fun s => resume (beginStep s)) s)

end Sys2Proof.Machine
end

