-- ==== Sys2Proof/Machine/Control.lean ====
section
/-! DEFINITION. What happens at a step of the machine: which port acts next (00_scope.md R16, 10_state.md R36, R41), an opcode
that selects no command (30_encoding.md R112), and reset (70_reset_and_hazards.md R340). -/

namespace Sys2Proof.Machine

/-- What the machine does next. -/
inductive Action where
  /-- Reset was requested (R340). -/
  | reset
  /-- A command word is accepted on the command port (R36, R41). -/
  | command (w : PortWord)
  /-- A `STEP` in progress goes on (R244). -/
  | resume
  /-- No step is in progress and no command has come: the block does nothing (R341). -/
  | quiet
  deriving DecidableEq, Repr

/-- Reset comes first (R340). The host acts only when no step is in progress, and the callback agent only while an invocation
is outstanding (R16, R30, R41). -/
def nextAction (s : State) : Action :=
  if s.resetReq then .reset
  else
    match s.await with
    | .none =>
      match s.cmds with
      | [] => .quiet
      | w :: _ => .command w
    | .callback _ =>
      match s.cbDue with
      | .command w :: _ => .command w
      | _ => .resume
    | _ => .resume

/-- The accepted command word leaves its port (R36). -/
def takeCommand (s : State) : State :=
  match s.await with
  | .callback _ => s.takeCb s.cbDue.tail
  | _ => s.withCmds s.cmds.tail

/-- An opcode that selects no command: `BADOP`, results zero, no state change (R112). -/
def rejectWord (s : State) : State :=
  refuse .badop s

/-- The request that a reset abandons, if one is outstanding, is one more whose answer will come late (R340, D34). -/
def abandon (a : Await) (l : Late) : Late :=
  match a with
  | .none => l
  | .receive _ => { l with receive := l.receive + 1 }
  | .hasPending => { l with hasPending := l.hasPending + 1 }
  | .callback _ => { l with callback := l.callback + 1 }

/-- Reset (R340): every piece of state at its reset value (R45), the configuration inputs sampled. A step in progress is
abandoned, and the answer to its outstanding request, whenever it comes, is ignored. DESIGN CHOICE, log entry 4: the abandoned
`STEP` returns no response; the capacities and `FALLBACK_SENDS`, and the words the host has not yet had accepted, stay. Log
entry 9: the responses and the trace stay. -/
def applyReset (s : State) : State :=
  { State.reset with
    cfg := { s.cfg with drainQueue := s.pins.drainQueue, timeout := s.pins.timeout }
    pins := s.pins
    late := abandon s.await s.late
    cmds := s.cmds
    rx := s.rx
    pend := s.pend
    cb := s.cb
    rsps := s.rsps
    trace := s.trace }

end Sys2Proof.Machine
end

