-- ==== Sys2Proof/Machine/Operands.lean ====
section
/-! DEFINITION. Operand assembly: the four bit-field primitives as functions of the buffer (40_bitfield_primitives.md R131 to
R135), the field table of the heartbeat buffer (20_memory.md R70, 42_heartbeat_codec.md R171), and the identifier's four
fields (20_memory.md R71). -/

namespace Sys2Proof.Machine

/-- `extract_single`: `(HB[byte_index] >> lsb) & width_mask` (R131). -/
def extractSingle (h : HBuf) (p : SingleParam) : Byte :=
  (h.get p.byteIndex >>> p.lsb.toNat) &&& p.widthMask

/-- `extract_pair`: `(hi << shift) | lo` on 32 bits (R132). -/
def extractPair (h : HBuf) (p : PairParam) : U32 :=
  ((extractSingle h p.hi).setWidth 32 <<< p.shift.toNat) ||| (extractSingle h p.lo).setWidth 32

/-- The field's bits within the byte: `trunc_8(zext_32(width_mask) << lsb)` (R134). -/
def placeMask (p : SingleParam) : Byte :=
  (p.widthMask.setWidth 32 <<< p.lsb.toNat).setWidth 8

/-- `trunc_8((value & zext_32(width_mask)) << lsb)` (R134). -/
def insertedBits (v : U32) (p : SingleParam) : Byte :=
  ((v &&& p.widthMask.setWidth 32) <<< p.lsb.toNat).setWidth 8

/-- `insert_single`: the field's bits are cleared and the masked value is ORed in; bits shifted out of the byte are dropped
(R134, D8). -/
def insertSingle (h : HBuf) (v : U32) (p : SingleParam) : HBuf :=
  h.set p.byteIndex ((h.get p.byteIndex &&& ~~~placeMask p) ||| insertedBits v p)

/-- `insert_pair`: first the high byte with `value >> shift`, then the low byte with `value` (R135, D9). -/
def insertPair (h : HBuf) (v : U32) (p : PairParam) : HBuf :=
  insertSingle (insertSingle h (v >>> p.shift.toNat) p.hi) v p.lo

/-- Where a field of the buffer lies: in one byte, or straddling two (R171). -/
inductive FieldLoc where
  | single (p : SingleParam)
  | pair (p : PairParam)
  deriving DecidableEq, Repr

/-- The parameters of the fifteen fields (R171). -/
def fieldLoc : Field → FieldLoc
  | .hour => .single ⟨0, 3, 0x1F⟩
  | .minute => .pair ⟨⟨0, 0, 0x07⟩, ⟨1, 5, 0x07⟩, 3⟩
  | .second => .pair ⟨⟨1, 0, 0x1F⟩, ⟨2, 7, 0x01⟩, 1⟩
  | .day => .single ⟨2, 2, 0x1F⟩
  | .month => .pair ⟨⟨2, 0, 0x03⟩, ⟨3, 6, 0x03⟩, 2⟩
  | .year => .single ⟨3, 0, 0x3F⟩
  | .tournamentType => .single ⟨4, 5, 0x07⟩
  | .systemWatchdog => .single ⟨4, 4, 0x01⟩
  | .testMode => .single ⟨4, 3, 0x01⟩
  | .autonomous => .single ⟨4, 2, 0x01⟩
  | .enabled => .single ⟨4, 1, 0x01⟩
  | .redAlliance => .single ⟨4, 0, 0x01⟩
  | .replayNumber => .single ⟨5, 2, 0x3F⟩
  | .matchNumber => .pair ⟨⟨5, 0, 0x03⟩, ⟨6, 0, 0xFF⟩, 8⟩
  | .matchTimeSeconds => .single ⟨7, 0, 0xFF⟩

/-- The width of a field in bits (R70). -/
def fieldWidth : Field → Nat
  | .hour => 5
  | .minute => 6
  | .second => 6
  | .day => 5
  | .month => 4
  | .year => 6
  | .tournamentType => 3
  | .systemWatchdog => 1
  | .testMode => 1
  | .autonomous => 1
  | .enabled => 1
  | .redAlliance => 1
  | .replayNumber => 6
  | .matchNumber => 10
  | .matchTimeSeconds => 8

/-- The lowest bit of a field's range in the 64-bit view `W` (R70, last column). -/
def fieldLow : Field → Nat
  | .hour => 59
  | .minute => 53
  | .second => 47
  | .day => 42
  | .month => 38
  | .year => 32
  | .tournamentType => 29
  | .systemWatchdog => 28
  | .testMode => 27
  | .autonomous => 26
  | .enabled => 25
  | .redAlliance => 24
  | .replayNumber => 18
  | .matchNumber => 8
  | .matchTimeSeconds => 0

/-- The generic getter: `XS` or `XP` with the field's parameters, zero-extended (R172). -/
def getField (h : HBuf) (f : Field) : U32 :=
  match fieldLoc f with
  | .single p => (extractSingle h p).setWidth 32
  | .pair p => extractPair h p

/-- The generic setter: `IS` or `IP` with the field's parameters (R173). -/
def setField (h : HBuf) (f : Field) (v : U32) : HBuf :=
  match fieldLoc f with
  | .single p => insertSingle h v p
  | .pair p => insertPair h v p

/-- The width mask of a field as a `u32`: `2^width - 1` (R173). -/
def fieldMask (f : Field) : U32 :=
  BitVec.ofNat 32 (2 ^ fieldWidth f - 1)

/-- `encode`: the four masked values placed at offsets 24, 16, 6 and 0 (R71, R151). -/
def encodeId (deviceType manufacturer api deviceNumber : U32) : U32 :=
  ((deviceType &&& 0x1F#32) <<< 24) ||| ((manufacturer &&& 0xFF#32) <<< 16) |||
    ((api &&& 0x3FF#32) <<< 6) ||| (deviceNumber &&& 0x3F#32)

/-- `device_type = id[28:24]` (R71, R152). -/
def idDeviceType (id : U32) : U32 :=
  (id >>> 24) &&& 0x1F#32

/-- `manufacturer = id[23:16]` (R71, R152). -/
def idManufacturer (id : U32) : U32 :=
  (id >>> 16) &&& 0xFF#32

/-- `api = id[15:6]` (R71, R152). -/
def idApi (id : U32) : U32 :=
  (id >>> 6) &&& 0x3FF#32

/-- `device_number = id[5:0]` (R71, R152). -/
def idDeviceNumber (id : U32) : U32 :=
  id &&& 0x3F#32

end Sys2Proof.Machine
end

