-- ==== Sys2Proof/Machine/Heartbeat.lean ====
section
/-! DEFINITION. Unit H: the heartbeat payload codec (42_heartbeat_codec.md). Each getter and setter is the generic one (R172,
R173) with its field's parameters (R171); status always `OK`, whatever `phase` is (R170). -/

namespace Sys2Proof.Machine

/-- What every getter does: `r0` is the field's value, nothing is written (R172). -/
def readField (f : Field) (s : State) : State :=
  s.respond (okRsp (getField s.hb f) 0 0 0)

/-- What every setter does: the field's bits of `HB` take the value's low bits, nothing else changes (R173). -/
def writeField (f : Field) (value : U32) (s : State) : State :=
  (s.withHb (setField s.hb f value)).respond okOnly

/-- `HB_GET_HOUR` (R175). -/
def execHbGetHour (s : State) : Host.Outcome State Fault Refusal :=
  .next (readField .hour s)

/-- `HB_GET_MINUTE` (R176). -/
def execHbGetMinute (s : State) : Host.Outcome State Fault Refusal :=
  .next (readField .minute s)

/-- `HB_GET_SECOND` (R177). -/
def execHbGetSecond (s : State) : Host.Outcome State Fault Refusal :=
  .next (readField .second s)

/-- `HB_GET_DAY` (R178). -/
def execHbGetDay (s : State) : Host.Outcome State Fault Refusal :=
  .next (readField .day s)

/-- `HB_GET_MONTH` (R179). -/
def execHbGetMonth (s : State) : Host.Outcome State Fault Refusal :=
  .next (readField .month s)

/-- `HB_GET_YEAR` (R180). -/
def execHbGetYear (s : State) : Host.Outcome State Fault Refusal :=
  .next (readField .year s)

/-- `HB_GET_TOURNAMENT_TYPE` (R181). -/
def execHbGetTournamentType (s : State) : Host.Outcome State Fault Refusal :=
  .next (readField .tournamentType s)

/-- `HB_GET_SYSTEM_WATCHDOG` (R182). -/
def execHbGetSystemWatchdog (s : State) : Host.Outcome State Fault Refusal :=
  .next (readField .systemWatchdog s)

/-- `HB_GET_TEST_MODE` (R183). -/
def execHbGetTestMode (s : State) : Host.Outcome State Fault Refusal :=
  .next (readField .testMode s)

/-- `HB_GET_AUTONOMOUS` (R184). -/
def execHbGetAutonomous (s : State) : Host.Outcome State Fault Refusal :=
  .next (readField .autonomous s)

/-- `HB_GET_ENABLED` (R185). -/
def execHbGetEnabled (s : State) : Host.Outcome State Fault Refusal :=
  .next (readField .enabled s)

/-- `HB_GET_RED_ALLIANCE` (R186). -/
def execHbGetRedAlliance (s : State) : Host.Outcome State Fault Refusal :=
  .next (readField .redAlliance s)

/-- `HB_GET_REPLAY_NUMBER` (R187). -/
def execHbGetReplayNumber (s : State) : Host.Outcome State Fault Refusal :=
  .next (readField .replayNumber s)

/-- `HB_GET_MATCH_NUMBER` (R188). -/
def execHbGetMatchNumber (s : State) : Host.Outcome State Fault Refusal :=
  .next (readField .matchNumber s)

/-- `HB_GET_MATCH_TIME_SECONDS` (R189). -/
def execHbGetMatchTimeSeconds (s : State) : Host.Outcome State Fault Refusal :=
  .next (readField .matchTimeSeconds s)

/-- `HB_SET_HOUR` (R190). -/
def execHbSetHour (value : U32) (s : State) : Host.Outcome State Fault Refusal :=
  .next (writeField .hour value s)

/-- `HB_SET_MINUTE` (R191). -/
def execHbSetMinute (value : U32) (s : State) : Host.Outcome State Fault Refusal :=
  .next (writeField .minute value s)

/-- `HB_SET_SECOND` (R192). -/
def execHbSetSecond (value : U32) (s : State) : Host.Outcome State Fault Refusal :=
  .next (writeField .second value s)

/-- `HB_SET_DAY` (R193). -/
def execHbSetDay (value : U32) (s : State) : Host.Outcome State Fault Refusal :=
  .next (writeField .day value s)

/-- `HB_SET_MONTH` (R194). -/
def execHbSetMonth (value : U32) (s : State) : Host.Outcome State Fault Refusal :=
  .next (writeField .month value s)

/-- `HB_SET_YEAR` (R195). -/
def execHbSetYear (value : U32) (s : State) : Host.Outcome State Fault Refusal :=
  .next (writeField .year value s)

/-- `HB_SET_TOURNAMENT_TYPE` (R196). -/
def execHbSetTournamentType (value : U32) (s : State) : Host.Outcome State Fault Refusal :=
  .next (writeField .tournamentType value s)

/-- `HB_SET_SYSTEM_WATCHDOG` (R197). -/
def execHbSetSystemWatchdog (value : U32) (s : State) : Host.Outcome State Fault Refusal :=
  .next (writeField .systemWatchdog value s)

/-- `HB_SET_TEST_MODE` (R198). -/
def execHbSetTestMode (value : U32) (s : State) : Host.Outcome State Fault Refusal :=
  .next (writeField .testMode value s)

/-- `HB_SET_AUTONOMOUS` (R199). -/
def execHbSetAutonomous (value : U32) (s : State) : Host.Outcome State Fault Refusal :=
  .next (writeField .autonomous value s)

/-- `HB_SET_ENABLED` (R200). -/
def execHbSetEnabled (value : U32) (s : State) : Host.Outcome State Fault Refusal :=
  .next (writeField .enabled value s)

/-- `HB_SET_RED_ALLIANCE` (R201). -/
def execHbSetRedAlliance (value : U32) (s : State) : Host.Outcome State Fault Refusal :=
  .next (writeField .redAlliance value s)

/-- `HB_SET_REPLAY_NUMBER` (R202). -/
def execHbSetReplayNumber (value : U32) (s : State) : Host.Outcome State Fault Refusal :=
  .next (writeField .replayNumber value s)

/-- `HB_SET_MATCH_NUMBER` (R203). -/
def execHbSetMatchNumber (value : U32) (s : State) : Host.Outcome State Fault Refusal :=
  .next (writeField .matchNumber value s)

/-- `HB_SET_MATCH_TIME_SECONDS` (R204). -/
def execHbSetMatchTimeSeconds (value : U32) (s : State) : Host.Outcome State Fault Refusal :=
  .next (writeField .matchTimeSeconds value s)

/-- `HB_CLEAR` (R205). -/
def execHbClear (s : State) : Host.Outcome State Fault Refusal :=
  .next ((s.withHb HBuf.zero).respond okOnly)

/-- `HB_LOAD` (R206): exactly eight bytes, stored unchanged. -/
def execHbLoad (word0 word1 : U32) (s : State) : Host.Outcome State Fault Refusal :=
  .next ((s.withHb (HBuf.ofWords word0 word1)).respond okOnly)

/-- `HB_READ` (R207). -/
def execHbRead (s : State) : Host.Outcome State Fault Refusal :=
  .next (s.respond (okRsp s.hb.word0 s.hb.word1 0 0))

end Sys2Proof.Machine
end

