-- ==== Sys2Proof/Machine/Identifier.lean ====
section
/-! DEFINITION. Unit I: the identifier codec (41_identifier_codec.md). It reads and writes no state; status always `OK`
(R150). -/

namespace Sys2Proof.Machine

/-- `ID_ENCODE` (R151). -/
def execIdEncode (deviceType manufacturer api deviceNumber : U32) (s : State) : Host.Outcome State Fault Refusal :=
  .next (s.respond (okRsp (encodeId deviceType manufacturer api deviceNumber) 0 0 0))

/-- `ID_DECODE` (R152). -/
def execIdDecode (id : U32) (s : State) : Host.Outcome State Fault Refusal :=
  .next (s.respond (okRsp (idDeviceType id) (idManufacturer id) (idApi id) (idDeviceNumber id)))

/-- `ID_FROM_RAW` (R153): all 32 bits pass through. -/
def execIdFromRaw (id : U32) (s : State) : Host.Outcome State Fault Refusal :=
  .next (s.respond (okRsp id 0 0 0))

end Sys2Proof.Machine
end

