-- ==== Sys2Proof/Machine/Primitives.lean ====
section
/-! DEFINITION. Unit P: the four bit-field primitives as commands on `HB` (40_bitfield_primitives.md). Status always `OK`
(R130). -/

namespace Sys2Proof.Machine

/-- `XS` (R131). -/
def execXs (p : SingleParam) (s : State) : Host.Outcome State Fault Refusal :=
  .next (s.respond (okRsp ((extractSingle s.hb p).setWidth 32) 0 0 0))

/-- `IS` (R134). -/
def execIs (p : SingleParam) (value : U32) (s : State) : Host.Outcome State Fault Refusal :=
  .next ((s.withHb (insertSingle s.hb value p)).respond okOnly)

/-- `XP` (R132). -/
def execXp (p : PairParam) (s : State) : Host.Outcome State Fault Refusal :=
  .next (s.respond (okRsp (extractPair s.hb p) 0 0 0))

/-- `IP` (R135). -/
def execIp (p : PairParam) (value : U32) (s : State) : Host.Outcome State Fault Refusal :=
  .next ((s.withHb (insertPair s.hb value p)).respond okOnly)

end Sys2Proof.Machine
end

