-- ==== Sys2Proof/Machine/Dispatch.lean ====
section
/-! DEFINITION. One arm per command of the opcode map (30_encoding.md R108), each a direct call of its meaning. -/

namespace Sys2Proof.Machine

/-- The meaning of every command. -/
def exec (i : Instr) (s : State) : Host.Outcome State Fault Refusal :=
  match i with
  | .xs p => Sys2Proof.Machine.execXs p s
  | .is p value => Sys2Proof.Machine.execIs p value s
  | .xp p => Sys2Proof.Machine.execXp p s
  | .ip p value => Sys2Proof.Machine.execIp p value s
  | .idEncode deviceType manufacturer api deviceNumber => Sys2Proof.Machine.execIdEncode deviceType manufacturer api deviceNumber s
  | .idDecode id => Sys2Proof.Machine.execIdDecode id s
  | .idFromRaw id => Sys2Proof.Machine.execIdFromRaw id s
  | .hbGetHour => Sys2Proof.Machine.execHbGetHour s
  | .hbGetMinute => Sys2Proof.Machine.execHbGetMinute s
  | .hbGetSecond => Sys2Proof.Machine.execHbGetSecond s
  | .hbGetDay => Sys2Proof.Machine.execHbGetDay s
  | .hbGetMonth => Sys2Proof.Machine.execHbGetMonth s
  | .hbGetYear => Sys2Proof.Machine.execHbGetYear s
  | .hbGetTournamentType => Sys2Proof.Machine.execHbGetTournamentType s
  | .hbGetSystemWatchdog => Sys2Proof.Machine.execHbGetSystemWatchdog s
  | .hbGetTestMode => Sys2Proof.Machine.execHbGetTestMode s
  | .hbGetAutonomous => Sys2Proof.Machine.execHbGetAutonomous s
  | .hbGetEnabled => Sys2Proof.Machine.execHbGetEnabled s
  | .hbGetRedAlliance => Sys2Proof.Machine.execHbGetRedAlliance s
  | .hbGetReplayNumber => Sys2Proof.Machine.execHbGetReplayNumber s
  | .hbGetMatchNumber => Sys2Proof.Machine.execHbGetMatchNumber s
  | .hbGetMatchTimeSeconds => Sys2Proof.Machine.execHbGetMatchTimeSeconds s
  | .hbClear => Sys2Proof.Machine.execHbClear s
  | .hbLoad word0 word1 => Sys2Proof.Machine.execHbLoad word0 word1 s
  | .hbRead => Sys2Proof.Machine.execHbRead s
  | .hbSetHour value => Sys2Proof.Machine.execHbSetHour value s
  | .hbSetMinute value => Sys2Proof.Machine.execHbSetMinute value s
  | .hbSetSecond value => Sys2Proof.Machine.execHbSetSecond value s
  | .hbSetDay value => Sys2Proof.Machine.execHbSetDay value s
  | .hbSetMonth value => Sys2Proof.Machine.execHbSetMonth value s
  | .hbSetYear value => Sys2Proof.Machine.execHbSetYear value s
  | .hbSetTournamentType value => Sys2Proof.Machine.execHbSetTournamentType value s
  | .hbSetSystemWatchdog value => Sys2Proof.Machine.execHbSetSystemWatchdog value s
  | .hbSetTestMode value => Sys2Proof.Machine.execHbSetTestMode value s
  | .hbSetAutonomous value => Sys2Proof.Machine.execHbSetAutonomous value s
  | .hbSetEnabled value => Sys2Proof.Machine.execHbSetEnabled value s
  | .hbSetRedAlliance value => Sys2Proof.Machine.execHbSetRedAlliance value s
  | .hbSetReplayNumber value => Sys2Proof.Machine.execHbSetReplayNumber value s
  | .hbSetMatchNumber value => Sys2Proof.Machine.execHbSetMatchNumber value s
  | .hbSetMatchTimeSeconds value => Sys2Proof.Machine.execHbSetMatchTimeSeconds value s
  | .regHandler id hid => Sys2Proof.Machine.execRegHandler id hid s
  | .regRtrHandler id hid => Sys2Proof.Machine.execRegRtrHandler id hid s
  | .regUnmatched hid => Sys2Proof.Machine.execRegUnmatched hid s
  | .regTimeout hid => Sys2Proof.Machine.execRegTimeout hid s
  | .regIteration hid => Sys2Proof.Machine.execRegIteration hid s
  | .step => Sys2Proof.Machine.execStep s

end Sys2Proof.Machine
end

