-- ==== Sys2Proof/Machine/Step.lean ====
section
/-! DEFINITION. One step of the machine: reset, one command accepted on the command port, or a `STEP` in progress going on
until it ends or waits. -/

namespace Sys2Proof.Machine

/-- An accepted command word: the command it decodes to is executed, or it is rejected with `BADOP` before anything else is
tested (R112, R302). -/
def runWord (w : PortWord) (s : State) : Host.Outcome State Fault Refusal :=
  match decode w with
  | .ok i => exec i s
  | .error _ => .next (rejectWord s)

/-- One step. -/
def step (s : State) : Host.Outcome State Fault Refusal :=
  match nextAction s with
  | .reset => .next (applyReset s)
  | .command w => runWord w (takeCommand s)
  | .resume => .next (resume s)
  | .quiet => .next s

/-- The state in which the next step accepts exactly this command word: it is put first on the command port, from the callback
agent while an invocation is outstanding, else from the host. A reset request is dropped and a wait for the transport is
ended, since in those states no command is accepted; after reset there is neither. -/
def State.withFetchWord (s : State) (nbits w : Nat) : State :=
  match s.await with
  | .callback _ => { s.takeCb (.command (tableWord nbits w) :: s.cbDue) with resetReq := false }
  | _ => { s with resetReq := false, await := .none, cmds := tableWord nbits w :: s.cmds }

end Sys2Proof.Machine
end

