-- ==== Sys2Proof/Machine/Pseudo.lean ====
section
/-! DEFINITION. The pseudo-operations with their expansions, and the written syntax (30_encoding.md R116, R117). -/

namespace Sys2Proof.Machine

/-- The pseudo-operations (R117). -/
inductive Pseudo where
  | registerIterationList (hids : List U32)
  | registerIteration (hid : U32)
  | getField (f : Field)
  | setField (f : Field) (value : U32)
  | readMatchTimeSeconds
  | writeMatchTimeSeconds (value : U32)
  | newHeartbeat
  | newHeartbeatFrom (word0 word1 : U32)
  | readHeartbeatPayload
  deriving DecidableEq, Repr

/-- The commands a pseudo-operation stands for (R117). `readHeartbeatPayload` is the command part of building a heartbeat
frame; `heartbeatFrame` builds the frame from its two results. -/
def expand : Pseudo → List Instr
  | .registerIterationList hids => hids.map Instr.regIteration
  | .registerIteration hid => [.regIteration hid]
  | .getField f => [f.getter]
  | .setField f value => [f.setter value]
  | .readMatchTimeSeconds => [.hbGetMatchTimeSeconds]
  | .writeMatchTimeSeconds value => [.hbSetMatchTimeSeconds value]
  | .newHeartbeat => [.hbClear]
  | .newHeartbeatFrom word0 word1 => [.hbLoad word0 word1]
  | .readHeartbeatPayload => [.hbRead]

/-- The status of the last response is `OK`. -/
def lastOk (s : State) : Bool :=
  match s.rsps.getLast? with
  | some r => decide (r.status = .ok)
  | none => false

/-- The commands of an expansion in order, stopping at the first whose status is not `OK` (R117). -/
def execList : List Instr → State → Host.Outcome State Fault Refusal
  | [], s => .next s
  | i :: rest, s =>
    match exec i s with
    | .next t => if lastOk t then execList rest t else .next t
    | .fault r => .fault r
    | .refused r => .refused r

/-- The primitive command a field's getter equals, with its constant parameter word (R117, R171). -/
def fieldExtract (f : Field) : Instr :=
  match fieldLoc f with
  | .single p => .xs p
  | .pair p => .xp p

/-- The primitive command a field's setter equals (R117, R171). -/
def fieldInsert (f : Field) (value : U32) : Instr :=
  match fieldLoc f with
  | .single p => .is p value
  | .pair p => .ip p value

/-- The parameter word `a0` of a field (R171). -/
def paramWord (f : Field) : U32 :=
  match fieldLoc f with
  | .single p => packSingle p
  | .pair p => packPair p

/-- The mnemonic of a command (R108). -/
def mnemonic : Instr → String
  | .xs _ => "XS"
  | .is _ _ => "IS"
  | .xp _ => "XP"
  | .ip _ _ => "IP"
  | .idEncode _ _ _ _ => "ID_ENCODE"
  | .idDecode _ => "ID_DECODE"
  | .idFromRaw _ => "ID_FROM_RAW"
  | .hbGetHour => "HB_GET_HOUR"
  | .hbGetMinute => "HB_GET_MINUTE"
  | .hbGetSecond => "HB_GET_SECOND"
  | .hbGetDay => "HB_GET_DAY"
  | .hbGetMonth => "HB_GET_MONTH"
  | .hbGetYear => "HB_GET_YEAR"
  | .hbGetTournamentType => "HB_GET_TOURNAMENT_TYPE"
  | .hbGetSystemWatchdog => "HB_GET_SYSTEM_WATCHDOG"
  | .hbGetTestMode => "HB_GET_TEST_MODE"
  | .hbGetAutonomous => "HB_GET_AUTONOMOUS"
  | .hbGetEnabled => "HB_GET_ENABLED"
  | .hbGetRedAlliance => "HB_GET_RED_ALLIANCE"
  | .hbGetReplayNumber => "HB_GET_REPLAY_NUMBER"
  | .hbGetMatchNumber => "HB_GET_MATCH_NUMBER"
  | .hbGetMatchTimeSeconds => "HB_GET_MATCH_TIME_SECONDS"
  | .hbClear => "HB_CLEAR"
  | .hbLoad _ _ => "HB_LOAD"
  | .hbRead => "HB_READ"
  | .hbSetHour _ => "HB_SET_HOUR"
  | .hbSetMinute _ => "HB_SET_MINUTE"
  | .hbSetSecond _ => "HB_SET_SECOND"
  | .hbSetDay _ => "HB_SET_DAY"
  | .hbSetMonth _ => "HB_SET_MONTH"
  | .hbSetYear _ => "HB_SET_YEAR"
  | .hbSetTournamentType _ => "HB_SET_TOURNAMENT_TYPE"
  | .hbSetSystemWatchdog _ => "HB_SET_SYSTEM_WATCHDOG"
  | .hbSetTestMode _ => "HB_SET_TEST_MODE"
  | .hbSetAutonomous _ => "HB_SET_AUTONOMOUS"
  | .hbSetEnabled _ => "HB_SET_ENABLED"
  | .hbSetRedAlliance _ => "HB_SET_RED_ALLIANCE"
  | .hbSetReplayNumber _ => "HB_SET_REPLAY_NUMBER"
  | .hbSetMatchNumber _ => "HB_SET_MATCH_NUMBER"
  | .hbSetMatchTimeSeconds _ => "HB_SET_MATCH_TIME_SECONDS"
  | .regHandler _ _ => "REG_HANDLER"
  | .regRtrHandler _ _ => "REG_RTR_HANDLER"
  | .regUnmatched _ => "REG_UNMATCHED"
  | .regTimeout _ => "REG_TIMEOUT"
  | .regIteration _ => "REG_ITERATION"
  | .step => "STEP"

/-- How many operand words a command's format has (R100 to R107). -/
def operandCount (i : Instr) : Nat :=
  ([(usedFields i).a0, (usedFields i).a1, (usedFields i).a2, (usedFields i).a3].filter (fun m => m ≠ 0)).length

/-- A command as it is written: its mnemonic, then its operand words in order, in decimal (R116). -/
def written (i : Instr) : String :=
  let c := encodeCmd i
  let operands := ([c.a0, c.a1, c.a2, c.a3].take (operandCount i)).map fun a => Nat.repr a.toNat
  match operands with
  | [] => mnemonic i
  | _ => mnemonic i ++ " " ++ String.intercalate ", " operands

end Sys2Proof.Machine
end

