-- ==== Sys2Proof/Machine/Pseudocode.lean ====
section
/-! DEFINITION. `STEP` a second time, as the big-step pseudocode of 43_dispatcher.md R245 reads line by line (R244: "A model
may use the big-step form of rule R245 alone; the two agree on every trace"). `execStep` is the machine; this form is what it
is compared with. It covers the steps whose every question the environment answers and in which the callback agent issues no
command of its own. -/

namespace Sys2Proof.Machine

/-- How a run of the pseudocode stands. -/
inductive Run where
  /-- It goes on from this state. -/
  | going (s : State)
  /-- A callback failed and the `STEP` is over (R251). -/
  | failed (s : State)
  /-- An answer is missing, or the callback agent issues a command of its own. -/
  | starved
  deriving DecidableEq, Repr

/-- One line after another: a failed or starved run does nothing more. -/
def Run.andThen (r : Run) (k : State → Run) : Run :=
  match r with
  | .going s => k s
  | .failed s => .failed s
  | .starved => .starved

/-- `r <- T.receive(TIMEOUT)`, with its `Recv` event. -/
def bigReceive (s : State) (k : Option CanFrame → State → Run) : Run :=
  match s.rxDue with
  | [] => .starved
  | r :: rest => k r.meaning ((s.takeRx rest).log (.recv r.meaning))

/-- `p <- T.has_pending()`, with its `Pending` event. -/
def bigPending (s : State) (k : Bool → State → Run) : Run :=
  match s.pendDue with
  | [] => .starved
  | p :: rest => k p ((s.takePend rest).log (.pending p))

/-- `CALL(kind, hid, arg, send_enable)` (R250). -/
def bigCall (kind : CbKind) (hid : U32) (arg : Option CanFrame) (sendEnable : Bool) (s : State) : Run :=
  match s.cbDue with
  | .answer r :: rest =>
    let t := (s.takeCb rest).log (.invoke ⟨kind, hid, arg⟩ r.meaning)
    match r.meaning with
    | .fault => .failed ((t.withPhase .faulted).respond (refusedRsp .faulted))
    | .ret none => .going t
    | .ret (some g) => .going (if sendEnable then t.log (.send g) else t)
  | _ => .starved

/-- `HANDLE_FRAME(f)` (R246). -/
def bigHandleFrame (f : CanFrame) (s : State) : Run :=
  let unmatched (s : State) : Run :=
    if s.unm.valid then bigCall .unmatched s.unm.hid (some f) s.cfg.fallbackSends s else .going s
  if f.isRemoteRequest = false then
    match lookup s.dataTable f.identifier with
    | some h => bigCall .data h (some f) true s
    | none => unmatched s
  else
    match lookup s.rtrTable f.identifier with
    | some h => bigCall .rtr h (some f) true s
    | none => unmatched s

/-- The frame loop (R245, R247), at most `n` times round. -/
def bigFrames : Nat → CanFrame → State → Run
  | 0, _, _ => .starved
  | n + 1, f, s =>
    (bigHandleFrame f (s.withCur f)).andThen fun s =>
      if s.cfg.drainQueue = false then .going s
      else
        bigPending s fun p s =>
          if p = false then .going s
          else
            bigReceive s fun r s =>
              match r with
              | none => .going s
              | some g => bigFrames n g s

/-- `for iter_idx from 0 to iter_len - 1, in order: CALL(K_ITER, ITER[iter_idx], None, 1)` (R245, R249). -/
def bigIterations : List U32 → State → Run
  | [], s => .going s
  | h :: rest, s =>
    (bigCall .iter h none true s).andThen fun s => bigIterations rest (s.withIterIdx (s.iterIdx + 1))

/-- The last lines of `STEP`: the iteration phase, then `phase <- IDLE` and status `OK` (R245). -/
def bigFinish (s : State) : Run :=
  (bigIterations s.iter ((s.withPhase .iterate).withIterIdx 0)).andThen fun s =>
    .going ((s.withPhase .idle).respond okOnly)

/-- The body of `STEP` after its guard (R245). The loop needs at most one round for each answer of `has_pending` and one
more. -/
def bigStep (s : State) : Run :=
  bigReceive (s.withPhase .wait) fun r s =>
    (match r with
      | some f => bigFrames (s.pend.length + 1) f (s.withPhase .dispatch)
      | none =>
        let s := s.withPhase .tmout
        if s.tmo.valid then bigCall .timeout s.tmo.hid none s.cfg.fallbackSends s else .going s).andThen
      bigFinish

end Sys2Proof.Machine
end

