-- ==== Sys2Proof/Safety.lean ====
section
/-! DEFINITION. What a good state of the block is: the tables in canonical form and within their capacities, and `phase`
in agreement with the request outstanding on the ports (10_state.md R24, R25, R28, R30, 43_dispatcher.md R244). -/

namespace Sys2Proof.Machine

/-- A handler table is in canonical form, keys unique, and within its capacity (R24, R25). -/
def tableWf (cap : Option Nat) (t : List Entry) : Bool :=
  keysRise t && withinCapacity cap t.length

/-- The request outstanding on the ports is one that the line of R245 recorded by `phase` makes (R30, R244): none in `IDLE`
and `FAULTED`; `T.receive(TIMEOUT)` in `WAIT`; in `DISPATCH` the callback that the frame in `cur` is routed to, or, in drain
mode only, `T.has_pending` or `T.receive`; in `TMOUT` the timeout-handler; in `ITERATE` the iteration callback at
`iter_idx`. -/
def awaitFits (s : State) : Prop :=
  match s.phase, s.await with
  | .idle, .none => True
  | .faulted, .none => True
  | .wait, .receive t => t = s.cfg.timeout
  | .dispatch, .receive t => t = s.cfg.timeout ∧ s.cfg.drainQueue = true
  | .dispatch, .hasPending => s.cfg.drainQueue = true
  | .dispatch, .callback req => req.arg = some s.cur ∧ route s s.cur = some (req.kind, req.hid)
  | .tmout, .callback req => s.tmo.valid = true ∧ req = ⟨.timeout, s.tmo.hid, none⟩
  | .iterate, .callback req => s.iter[s.iterIdx]? = some req.hid ∧ req.kind = .iter ∧ req.arg = none
  | _, _ => False

/-- The invariant of the block. -/
structure Good (s : State) : Prop where
  dataTable : tableWf s.cfg.capData s.dataTable = true
  rtrTable : tableWf s.cfg.capRtr s.rtrTable = true
  iterList : withinCapacity s.cfg.capIter s.iter.length = true
  port : awaitFits s

/-- A `STEP` is in progress (R30). -/
def stepInProgress (s : State) : Prop :=
  s.phase ≠ .idle ∧ s.phase ≠ .faulted

/-- The pieces of dispatcher state that only registrations write (R24 to R28). -/
def sameRouting (s t : State) : Prop :=
  t.dataTable = s.dataTable ∧ t.rtrTable = s.rtrTable ∧ t.unm = s.unm ∧ t.tmo = s.tmo ∧ t.iter = s.iter

/-- The events of one invocation that returned `g`: the `Invoke`, and the `Send` that follows it at once when a frame was
returned and its kind sends: always for a handler from a table and an iteration callback, as `FALLBACK_SENDS` says for the
unmatched-handler and the timeout-handler. Spelled out from R250, R262. -/
def callEvents (cfg : Params) (req : CbRequest) (g : Option CanFrame) : List Event :=
  .invoke req (.ret g) ::
    match g, req.kind with
    | none, _ => []
    | some f, .data => [.send f]
    | some f, .rtr => [.send f]
    | some f, .iter => [.send f]
    | some f, .unmatched => if cfg.fallbackSends then [.send f] else []
    | some f, .timeout => if cfg.fallbackSends then [.send f] else []

/-- The events of a row of invocations, the i-th of which returned the i-th frame. -/
def callsEvents (cfg : Params) : List CbRequest → List (Option CanFrame) → List Event
  | req :: reqs, g :: gs => callEvents cfg req g ++ callsEvents cfg reqs gs
  | _, _ => []

/-- The invocations of the iteration phase, in registration order (R249). -/
def iterationCalls (s : State) : List CbRequest :=
  s.iter.map fun h => ⟨.iter, h, none⟩

/-- The invocation of a timeout: the timeout-handler's when one is set (R248). -/
def timeoutCalls (s : State) : List CbRequest :=
  if s.tmo.valid then [⟨.timeout, s.tmo.hid, none⟩] else []

/-- The invocation of a received frame, spelled out from R246: the entry of the table of the frame's kind, else the
unmatched-handler when one is set, else none. -/
def frameCalls (s : State) (f : CanFrame) : List CbRequest :=
  let table := if f.isRemoteRequest then s.rtrTable else s.dataTable
  let kind := if f.isRemoteRequest then CbKind.rtr else CbKind.data
  match table.find? (fun e => e.key == f.identifier) with
  | some e => [⟨kind, e.hid, some f⟩]
  | none => if s.unm.valid then [⟨.unmatched, s.unm.hid, some f⟩] else []

/-- The events of a drained row of frames, each of which is routed to a callback: its `Recv`, its invocation, and the `Pending`
answer that says whether another follows (R247). -/
def drainEvents (s : State) : List CanFrame → List (Option CanFrame) → List Event
  | f :: fs, g :: gs =>
    .recv (some f) :: callsEvents s.cfg (frameCalls s f) [g] ++ (.pending (!fs.isEmpty) :: drainEvents s fs gs)
  | _, _ => []

/-- Every `Send(f)` follows at once an `Invoke` that returned `Some f` (R76, R264). -/
def sendsFollow : List Event → Bool
  | [] => true
  | .invoke _ (.ret (some f)) :: .send g :: rest => decide (f = g) && sendsFollow rest
  | .send _ :: _ => false
  | _ :: rest => sendsFollow rest

/-- How many `Send` events a trace has. -/
def sendCount (t : List Event) : Nat :=
  (t.filter fun e => match e with
    | .send _ => true
    | _ => false).length

/-- How many `Invoke` events a trace has. -/
def invokeCount (t : List Event) : Nat :=
  (t.filter fun e => match e with
    | .invoke _ _ => true
    | _ => false).length

/-- How many `Recv` events a trace has. -/
def recvCount (t : List Event) : Nat :=
  (t.filter fun e => match e with
    | .recv _ => true
    | _ => false).length

/-- How many `Pending(1)` events a trace has. -/
def pendingCount (t : List Event) : Nat :=
  (t.filter fun e => match e with
    | .pending p => p
    | _ => false).length

/-- More answers and events come in on the ports. -/
def State.feed (s : State) (rx : List RecvResponse) (pend : List Bool) (cb : List CbEvent) : State :=
  ((s.withRx (s.rx ++ rx)).withPend (s.pend ++ pend)).withCb (s.cb ++ cb)

/-- The states of one whole `STEP` begun in `s`, up to its end: the command, then any number of answers coming in and of steps of
the machine while it is in progress, nested commands of the callback agent among them (R41, R244, R263). -/
inductive OneStep (s : State) : State → Prop where
  | begun {t : State} : exec .step s = .next t → OneStep s t
  | fed {t : State} (rx : List RecvResponse) (pend : List Bool) (cb : List CbEvent) : OneStep s t → OneStep s (t.feed rx pend cb)
  | went {t u : State} : OneStep s t → stepInProgress t → t.resetReq = false → step t = .next u → OneStep s u

end Sys2Proof.Machine
end

