-- ==== Sys2Proof/Certificates/Slice0/Obligations.lean ====
section
/-! DEFINITION. The statements for the provers. Each says in its docstring which rule of spec/ it formalises. A response is
written out as `⟨status, r0, r1, r2, r3⟩`; `s.respond r` is `s` with one more response on the command port. `s.rxDue`, `s.pendDue`
and `s.cbDue` are the answers and events on the ports that count: where a reset abandoned a request, its late answer lies before
them and is passed over. -/

open Sys2Proof Sys2Proof.Machine

/-! ### The command word -/

/-- Words written out bit by bit from the formats of 30_encoding.md R100 to R107 and the opcode map R108 decode to the
commands they stand for, the ignored bits of format P1 and of unused operands set or clear. -/
def Obligations.WrittenWordsDecode : Prop :=
  decode (0x00#8 ++ 0b000000000000000000#18 ++ 0b101#3 ++ 0b010#3 ++ 0x3F#8 ++ 0#96) = .ok (.xs ⟨5, 2, 0x3F⟩) ∧
  decode (0x00#8 ++ 0b111111111111111111#18 ++ 0b111#3 ++ 0b000#3 ++ 0xFF#8 ++ 0#96) = .ok (.xs ⟨7, 0, 0xFF⟩) ∧
  decode (0x01#8 ++ 0x0000031F#32 ++ 0x12345678#32 ++ 0#64) = .ok (.is ⟨0, 3, 0x1F⟩ 0x12345678) ∧
  decode (0x02#8 ++ 0b001#3 ++ 0b000#3 ++ 0x1F#8 ++ 0b010#3 ++ 0b111#3 ++ 0x01#8 ++ 0b0001#4 ++ 0#96) =
    .ok (.xp ⟨⟨1, 0, 0x1F⟩, ⟨2, 7, 0x01⟩, 1⟩) ∧
  decode (0x03#8 ++ 0xA00F0FF8#32 ++ 0x3FF#32 ++ 0#64) = .ok (.ip ⟨⟨5, 0, 0x03⟩, ⟨6, 0, 0xFF⟩, 8⟩ 0x3FF) ∧
  decode (0x40#8 ++ 0xA#32 ++ 0x8#32 ++ 0x1#32 ++ 0x2#32) = .ok (.idEncode 10 8 1 2) ∧
  decode (0x8D#8 ++ 0#128) = .ok .hbGetMatchNumber ∧
  decode (0x91#8 ++ 0xA55AC33C#32 ++ 0x9669F00F#32 ++ 0xFFFFFFFF#32 ++ 0xFFFFFFFF#32) =
    .ok (.hbLoad 0xA55AC33C 0x9669F00F) ∧
  decode (0xA2#8 ++ 0x3B#32 ++ 0#96) = .ok (.hbSetSecond 59) ∧
  decode (0xC0#8 ++ 0x0A080041#32 ++ 0x7#32 ++ 0#64) = .ok (.regHandler 0x0A080041 7) ∧
  decode (0xC8#8 ++ 0#128) = .ok .step ∧
  decode (0x8F#8 ++ 0xDEADBEEF#32 ++ 0#96) = .error (.noSuchCommand 0x8F)

/-- R108, R91: every command has the opcode that the opcode map gives its mnemonic, and `op[7:6]` is its unit's code. -/
def Obligations.OpcodeMapIsListed : Prop :=
  ∀ i : Instr, ((encodeCmd i).op, mnemonic i) ∈
    [(0x00#8, "XS"), (0x01#8, "IS"), (0x02#8, "XP"), (0x03#8, "IP"), (0x40#8, "ID_ENCODE"), (0x41#8, "ID_DECODE"),
     (0x42#8, "ID_FROM_RAW"), (0x80#8, "HB_GET_HOUR"), (0x81#8, "HB_GET_MINUTE"), (0x82#8, "HB_GET_SECOND"),
     (0x83#8, "HB_GET_DAY"), (0x84#8, "HB_GET_MONTH"), (0x85#8, "HB_GET_YEAR"), (0x86#8, "HB_GET_TOURNAMENT_TYPE"),
     (0x87#8, "HB_GET_SYSTEM_WATCHDOG"), (0x88#8, "HB_GET_TEST_MODE"), (0x89#8, "HB_GET_AUTONOMOUS"),
     (0x8A#8, "HB_GET_ENABLED"), (0x8B#8, "HB_GET_RED_ALLIANCE"), (0x8C#8, "HB_GET_REPLAY_NUMBER"),
     (0x8D#8, "HB_GET_MATCH_NUMBER"), (0x8E#8, "HB_GET_MATCH_TIME_SECONDS"), (0x90#8, "HB_CLEAR"), (0x91#8, "HB_LOAD"),
     (0x92#8, "HB_READ"), (0xA0#8, "HB_SET_HOUR"), (0xA1#8, "HB_SET_MINUTE"), (0xA2#8, "HB_SET_SECOND"),
     (0xA3#8, "HB_SET_DAY"), (0xA4#8, "HB_SET_MONTH"), (0xA5#8, "HB_SET_YEAR"), (0xA6#8, "HB_SET_TOURNAMENT_TYPE"),
     (0xA7#8, "HB_SET_SYSTEM_WATCHDOG"), (0xA8#8, "HB_SET_TEST_MODE"), (0xA9#8, "HB_SET_AUTONOMOUS"),
     (0xAA#8, "HB_SET_ENABLED"), (0xAB#8, "HB_SET_RED_ALLIANCE"), (0xAC#8, "HB_SET_REPLAY_NUMBER"),
     (0xAD#8, "HB_SET_MATCH_NUMBER"), (0xAE#8, "HB_SET_MATCH_TIME_SECONDS"), (0xC0#8, "REG_HANDLER"),
     (0xC1#8, "REG_RTR_HANDLER"), (0xC2#8, "REG_UNMATCHED"), (0xC3#8, "REG_TIMEOUT"), (0xC4#8, "REG_ITERATION"),
     (0xC8#8, "STEP")] ∧
    (encodeCmd i).op.extractLsb' 6 2 =
      match i.unit with
      | .primitives => 0b00#2
      | .identifier => 0b01#2
      | .heartbeat => 0b10#2
      | .dispatcher => 0b11#2

/-- Decode and encode agree for every command, with every operand at every value (R100 to R108): no bit of an encoding is
dropped. -/
def Obligations.DecodeOfEncode : Prop :=
  ∀ i : Instr, decode (encode i) = .ok i

/-- The other direction: a word that decodes is the encoding of what it decodes to, but for the bits that command ignores, so
those bits have no effect on the command (R92, R113). -/
def Obligations.IgnoredBitsHaveNoEffect : Prop :=
  (∀ (w : PortWord) (i : Instr), decode w = .ok i → encode i = w &&& usedBits i) ∧
  (∀ (w : PortWord) (i : Instr), decode w = .ok i → decode (w &&& usedBits i) = .ok i)

/-- R112: an opcode outside the map, in whichever of its ranges, is answered `BADOP` with all results zero and no state change,
whether the host or the callback agent issues it, and in every `phase`. -/
def Obligations.UnlistedOpcodeAnswersBadop : Prop :=
  (∀ op : Byte, listedOpcodes.contains op = false ↔
    op = 0x8F#8 ∨ op = 0xAF#8 ∨ (0x93 ≤ op.toNat ∧ op.toNat ≤ 0x9F) ∨ (0xC5 ≤ op.toNat ∧ op.toNat ≤ 0xC7) ∨
      (0xC9 ≤ op.toNat ∧ op.toNat ≤ 0xFF) ∨ (0x04 ≤ op.toNat ∧ op.toNat ≤ 0x3F) ∨
      (0x43 ≤ op.toNat ∧ op.toNat ≤ 0x7F) ∨ (0xB0 ≤ op.toNat ∧ op.toNat ≤ 0xBF)) ∧
  (∀ (s : State) (w : PortWord) (rest : List PortWord),
    listedOpcodes.contains (w.extractLsb' 128 8) = false → s.resetReq = false → s.await = .none → s.cmds = w :: rest →
      step s = .next ((s.withCmds rest).respond ⟨.badop, 0, 0, 0, 0⟩)) ∧
  (∀ (s : State) (w : PortWord) (req : CbRequest) (rest : List CbEvent),
    listedOpcodes.contains (w.extractLsb' 128 8) = false → s.resetReq = false → s.await = .callback req →
      s.cbDue = .command w :: rest → step s = .next ((s.takeCb rest).respond ⟨.badop, 0, 0, 0, 0⟩))

/-- A step runs the decoded command: when the next word on the command port decodes to `i`, the step is `exec i` at the state
from which that word has been taken. The host's words are taken when no `STEP` is in progress, the callback agent's while an
invocation is outstanding (R16, R36, R41). -/
def Obligations.StepRunsAcceptedCommand : Prop :=
  (∀ (s : State) (w : PortWord) (i : Instr) (rest : List PortWord),
    s.resetReq = false → s.await = .none → s.cmds = w :: rest → decode w = .ok i → step s = exec i (s.withCmds rest)) ∧
  (∀ (s : State) (w : PortWord) (i : Instr) (req : CbRequest) (rest : List CbEvent),
    s.resetReq = false → s.await = .callback req → s.cbDue = .command w :: rest → decode w = .ok i →
      step s = exec i (s.takeCb rest))

/-- The response word and the command word have their fields where R90 puts them, and the status codes are those of R37. -/
def Obligations.CommandPortWords : Prop :=
  (∀ r : Rsp, r.toWord.extractLsb' 128 8 = r.status.code ∧ r.toWord.extractLsb' 96 32 = r.r0 ∧
    r.toWord.extractLsb' 64 32 = r.r1 ∧ r.toWord.extractLsb' 32 32 = r.r2 ∧ r.toWord.extractLsb' 0 32 = r.r3) ∧
  (∀ i : Instr, (encode i).extractLsb' 128 8 = (encodeCmd i).op ∧ (encode i).extractLsb' 96 32 = (encodeCmd i).a0 ∧
    (encode i).extractLsb' 64 32 = (encodeCmd i).a1 ∧ (encode i).extractLsb' 32 32 = (encodeCmd i).a2 ∧
    (encode i).extractLsb' 0 32 = (encodeCmd i).a3) ∧
  Status.ok.code = 0x00#8 ∧ Status.dup.code = 0x01#8 ∧ Status.full.code = 0x02#8 ∧ Status.busy.code = 0x03#8 ∧
  Status.faulted.code = 0x04#8 ∧ Status.badop.code = 0x05#8

/-- The 102-bit frame record has its fields where R96 puts them, and frame and record determine each other. -/
def Obligations.FrameRecordLayout : Prop :=
  (∀ f : CanFrame, f.toBits.extractLsb' 70 32 = f.identifier ∧ f.toBits.getLsbD 69 = f.extended ∧
    f.toBits.getLsbD 68 = f.isRemoteRequest ∧ f.toBits.extractLsb' 64 4 = f.len ∧ f.toBits.extractLsb' 0 64 = f.data) ∧
  (∀ f : CanFrame, CanFrame.ofBits f.toBits = f) ∧ (∀ w : BitVec 102, (CanFrame.ofBits w).toBits = w)

/-! ### Unit P -/

/-- R131: `XS` answers the addressed byte shifted right by `lsb`, under the mask; nothing else changes. -/
def Obligations.XsReadsField : Prop :=
  ∀ (p : SingleParam) (s : State), encodeCmd (.xs p) = ⟨0x00#8, packSingle p, 0, 0, 0⟩ ∧ ∃ r0 : U32,
    exec (.xs p) s = .next (s.respond ⟨.ok, r0, 0, 0, 0⟩) ∧
    r0.toNat = ((s.hb.get p.byteIndex).toNat / 2 ^ p.lsb.toNat) &&& p.widthMask.toNat

/-- R132: `XP` answers the high field shifted left by `shift`, ORed with the low field; at most 23 bits are significant. -/
def Obligations.XpJoinsTwoFields : Prop :=
  ∀ (p : PairParam) (s : State), encodeCmd (.xp p) = ⟨0x02#8, packPair p, 0, 0, 0⟩ ∧ ∃ r0 : U32,
    exec (.xp p) s = .next (s.respond ⟨.ok, r0, 0, 0, 0⟩) ∧
    r0.toNat =
      ((((s.hb.get p.hi.byteIndex).toNat / 2 ^ p.hi.lsb.toNat) &&& p.hi.widthMask.toNat) * 2 ^ p.shift.toNat) |||
        (((s.hb.get p.lo.byteIndex).toNat / 2 ^ p.lo.lsb.toNat) &&& p.lo.widthMask.toNat) ∧
    r0.toNat < 2 ^ 23

/-- R134, bit by bit: `IS` gives the bits of the addressed byte that the mask, moved up by `lsb`, selects the value's bits, and
leaves every other bit of the buffer, and all other state, as it was. -/
def Obligations.IsWritesField : Prop :=
  ∀ (p : SingleParam) (v : U32) (s : State), encodeCmd (.is p v) = ⟨0x01#8, packSingle p, v, 0, 0⟩ ∧ ∃ h : HBuf,
    exec (.is p v) s = .next ((s.withHb h).respond ⟨.ok, 0, 0, 0, 0⟩) ∧
    ∀ (i : Fin 8) (k : Nat), k < 8 →
      (h.get i).getLsbD k =
        if i = p.byteIndex ∧ p.lsb.toNat ≤ k ∧ p.widthMask.getLsbD (k - p.lsb.toNat) = true
        then v.getLsbD (k - p.lsb.toNat)
        else (s.hb.get i).getLsbD k

/-- R135, bit by bit: `IP` writes the low field from the value and the high field from the value shifted right, the low field
winning where they overlap, and changes no other bit and no other state. -/
def Obligations.IpWritesTwoFields : Prop :=
  ∀ (p : PairParam) (v : U32) (s : State), encodeCmd (.ip p v) = ⟨0x03#8, packPair p, v, 0, 0⟩ ∧ ∃ h : HBuf,
    exec (.ip p v) s = .next ((s.withHb h).respond ⟨.ok, 0, 0, 0, 0⟩) ∧
    ∀ (i : Fin 8) (k : Nat), k < 8 →
      (h.get i).getLsbD k =
        if i = p.lo.byteIndex ∧ p.lo.lsb.toNat ≤ k ∧ p.lo.widthMask.getLsbD (k - p.lo.lsb.toNat) = true
        then v.getLsbD (k - p.lo.lsb.toNat)
        else if i = p.hi.byteIndex ∧ p.hi.lsb.toNat ≤ k ∧ p.hi.widthMask.getLsbD (k - p.hi.lsb.toNat) = true
        then v.getLsbD (p.shift.toNat + (k - p.hi.lsb.toNat))
        else (s.hb.get i).getLsbD k

/-- The laws of R137 for a field inside one byte: extract after insert gives the masked value; insertion changes no bit outside
the field; inserting what was extracted changes nothing. -/
def Obligations.SingleFieldLaws : Prop :=
  ∀ (p : SingleParam) (w : Nat), p.fits w = true → ∀ (h : HBuf) (v : U32),
    (extractSingle (insertSingle h v p) p).setWidth 32 = v &&& p.widthMask.setWidth 32 ∧
    (∀ (i : Fin 8) (k : Nat), ¬ (i = p.byteIndex ∧ p.lsb.toNat ≤ k ∧ k < p.lsb.toNat + w) →
      ((insertSingle h v p).get i).getLsbD k = (h.get i).getLsbD k) ∧
    insertSingle h ((extractSingle h p).setWidth 32) p = h

/-- The laws of R137 for a two-byte field whose halves lie inside their bytes and are disjoint. -/
def Obligations.PairFieldLaws : Prop :=
  ∀ (p : PairParam) (wHi : Nat), p.fits wHi = true → ∀ (h : HBuf) (v : U32),
    extractPair (insertPair h v p) p = v &&& BitVec.ofNat 32 (2 ^ (wHi + p.shift.toNat) - 1) ∧
    (∀ (i : Fin 8) (k : Nat), ¬ (i = p.hi.byteIndex ∧ p.hi.lsb.toNat ≤ k ∧ k < p.hi.lsb.toNat + wHi) →
      ¬ (i = p.lo.byteIndex ∧ p.lo.lsb.toNat ≤ k ∧ k < p.lo.lsb.toNat + p.shift.toNat) →
      ((insertPair h v p).get i).getLsbD k = (h.get i).getLsbD k) ∧
    insertPair h (extractPair h p) p = h

/-! ### Unit I -/

/-- R151: `ID_ENCODE` places the four operands, each cut to its width, at offsets 24, 16, 6 and 0; no state changes. -/
def Obligations.IdEncodePacksFields : Prop :=
  ∀ (dt mf api dn : U32) (s : State), encodeCmd (.idEncode dt mf api dn) = ⟨0x40#8, dt, mf, api, dn⟩ ∧ ∃ r0 : U32,
    exec (.idEncode dt mf api dn) s = .next (s.respond ⟨.ok, r0, 0, 0, 0⟩) ∧
    r0.toNat = dt.toNat % 2 ^ 5 * 2 ^ 24 + mf.toNat % 2 ^ 8 * 2 ^ 16 + api.toNat % 2 ^ 10 * 2 ^ 6 + dn.toNat % 2 ^ 6

/-- R152: `ID_DECODE` answers the four slices of the identifier; bits 31:29 reach no field; no state changes. -/
def Obligations.IdDecodeSplitsFields : Prop :=
  ∀ (id : U32) (s : State), encodeCmd (.idDecode id) = ⟨0x41#8, id, 0, 0, 0⟩ ∧ ∃ r0 r1 r2 r3 : U32,
    exec (.idDecode id) s = .next (s.respond ⟨.ok, r0, r1, r2, r3⟩) ∧
    r0.toNat = id.toNat / 2 ^ 24 % 2 ^ 5 ∧ r1.toNat = id.toNat / 2 ^ 16 % 2 ^ 8 ∧
    r2.toNat = id.toNat / 2 ^ 6 % 2 ^ 10 ∧ r3.toNat = id.toNat % 2 ^ 6

/-- R153: `ID_FROM_RAW` answers its operand, all 32 bits; no state changes. -/
def Obligations.IdFromRawPassesThrough : Prop :=
  ∀ (id : U32) (s : State), encodeCmd (.idFromRaw id) = ⟨0x42#8, id, 0, 0, 0⟩ ∧
    exec (.idFromRaw id) s = .next (s.respond ⟨.ok, id, 0, 0, 0⟩)

/-- R155, the round-trip laws of the codec, command after command, for all operands (the second and the third
law are the spec's own inference, R155); and the heartbeat identifier of R72 decodes
to (1, 1, 0x61, 0), which is the spec's inference too. -/
def Obligations.IdentifierRoundTrips : Prop :=
  (∀ (dt mf api dn : U32) (s : State), ∃ r0 : U32,
    exec (.idEncode dt mf api dn) s = .next (s.respond ⟨.ok, r0, 0, 0, 0⟩) ∧
    exec (.idDecode r0) s = .next (s.respond ⟨.ok, dt &&& 0x1F#32, mf &&& 0xFF#32, api &&& 0x3FF#32, dn &&& 0x3F#32⟩)) ∧
  (∀ (id : U32) (s : State), ∃ r0 r1 r2 r3 : U32,
    exec (.idDecode id) s = .next (s.respond ⟨.ok, r0, r1, r2, r3⟩) ∧
    exec (.idEncode r0 r1 r2 r3) s = .next (s.respond ⟨.ok, id &&& 0x1FFFFFFF#32, 0, 0, 0⟩)) ∧
  (∀ (id : U32) (s : State), ∃ r0 : U32,
    exec (.idFromRaw id) s = .next (s.respond ⟨.ok, r0, 0, 0, 0⟩) ∧ exec (.idDecode r0) s = exec (.idDecode id) s) ∧
  (∀ s : State, exec (.idDecode 0x01011840#32) s = .next (s.respond ⟨.ok, 1, 1, 0x061, 0⟩))

/-! ### Unit H -/

/-- R62, R70, R172: each of the fifteen getter commands (`HB_GET_HOUR` to `HB_GET_MATCH_TIME_SECONDS`, named by
`Field.getter`) answers exactly its field's range of the 64-bit view `W`, zero-extended; nothing else changes. -/
def Obligations.GettersReadTheirRange : Prop :=
  ∀ (f : Field) (s : State),
    exec f.getter s =
      .next (s.respond ⟨.ok, (s.hb.word64.extractLsb' (fieldLow f) (fieldWidth f)).setWidth 32, 0, 0, 0⟩)

/-- R175, R178, R180 to R187, R189: the pseudocode of the eleven getters whose field lies in one byte. -/
def Obligations.OneByteGetters : Prop :=
  ∀ s : State,
    exec .hbGetHour s = .next (s.respond ⟨.ok, ((s.hb.get 0 >>> 3) &&& 0x1F#8).setWidth 32, 0, 0, 0⟩) ∧
    exec .hbGetDay s = .next (s.respond ⟨.ok, ((s.hb.get 2 >>> 2) &&& 0x1F#8).setWidth 32, 0, 0, 0⟩) ∧
    exec .hbGetYear s = .next (s.respond ⟨.ok, ((s.hb.get 3 >>> 0) &&& 0x3F#8).setWidth 32, 0, 0, 0⟩) ∧
    exec .hbGetTournamentType s = .next (s.respond ⟨.ok, ((s.hb.get 4 >>> 5) &&& 0x07#8).setWidth 32, 0, 0, 0⟩) ∧
    exec .hbGetSystemWatchdog s = .next (s.respond ⟨.ok, ((s.hb.get 4 >>> 4) &&& 0x01#8).setWidth 32, 0, 0, 0⟩) ∧
    exec .hbGetTestMode s = .next (s.respond ⟨.ok, ((s.hb.get 4 >>> 3) &&& 0x01#8).setWidth 32, 0, 0, 0⟩) ∧
    exec .hbGetAutonomous s = .next (s.respond ⟨.ok, ((s.hb.get 4 >>> 2) &&& 0x01#8).setWidth 32, 0, 0, 0⟩) ∧
    exec .hbGetEnabled s = .next (s.respond ⟨.ok, ((s.hb.get 4 >>> 1) &&& 0x01#8).setWidth 32, 0, 0, 0⟩) ∧
    exec .hbGetRedAlliance s = .next (s.respond ⟨.ok, ((s.hb.get 4 >>> 0) &&& 0x01#8).setWidth 32, 0, 0, 0⟩) ∧
    exec .hbGetReplayNumber s = .next (s.respond ⟨.ok, ((s.hb.get 5 >>> 2) &&& 0x3F#8).setWidth 32, 0, 0, 0⟩) ∧
    exec .hbGetMatchTimeSeconds s = .next (s.respond ⟨.ok, (s.hb.get 7).setWidth 32, 0, 0, 0⟩) ∧
    [
      Instr.hbGetHour, .hbGetDay, .hbGetYear, .hbGetTournamentType, .hbGetSystemWatchdog, .hbGetTestMode,
      .hbGetAutonomous, .hbGetEnabled, .hbGetRedAlliance, .hbGetReplayNumber, .hbGetMatchTimeSeconds].map encodeCmd = [
      ⟨0x80#8, 0, 0, 0, 0⟩, ⟨0x83#8, 0, 0, 0, 0⟩, ⟨0x85#8, 0, 0, 0, 0⟩, ⟨0x86#8, 0, 0, 0, 0⟩, ⟨0x87#8, 0, 0, 0, 0⟩,
      ⟨0x88#8, 0, 0, 0, 0⟩, ⟨0x89#8, 0, 0, 0, 0⟩, ⟨0x8A#8, 0, 0, 0, 0⟩, ⟨0x8B#8, 0, 0, 0, 0⟩, ⟨0x8C#8, 0, 0, 0, 0⟩,
      ⟨0x8E#8, 0, 0, 0, 0⟩]

/-- R176, R177, R179, R188: the pseudocode of the four getters whose field straddles two bytes, as numbers. -/
def Obligations.StraddlingGetters : Prop :=
  ∀ s : State, ∃ minute second month match_ : U32,
    exec .hbGetMinute s = .next (s.respond ⟨.ok, minute, 0, 0, 0⟩) ∧
    minute.toNat = (s.hb.get 0).toNat % 8 * 8 + (s.hb.get 1).toNat / 32 ∧
    exec .hbGetSecond s = .next (s.respond ⟨.ok, second, 0, 0, 0⟩) ∧
    second.toNat = (s.hb.get 1).toNat % 32 * 2 + (s.hb.get 2).toNat / 128 ∧
    exec .hbGetMonth s = .next (s.respond ⟨.ok, month, 0, 0, 0⟩) ∧
    month.toNat = (s.hb.get 2).toNat % 4 * 4 + (s.hb.get 3).toNat / 64 ∧
    exec .hbGetMatchNumber s = .next (s.respond ⟨.ok, match_, 0, 0, 0⟩) ∧
    match_.toNat = (s.hb.get 5).toNat % 4 * 256 + (s.hb.get 6).toNat ∧
    [
      Instr.hbGetMinute, .hbGetSecond, .hbGetMonth, .hbGetMatchNumber].map encodeCmd = [
      ⟨0x81#8, 0, 0, 0, 0⟩, ⟨0x82#8, 0, 0, 0, 0⟩, ⟨0x84#8, 0, 0, 0, 0⟩, ⟨0x8D#8, 0, 0, 0, 0⟩]

/-- R190, R193, R195 to R202, R204: the pseudocode of the eleven setters whose field lies in one byte; no other byte and no
other state changes. -/
def Obligations.OneByteSetters : Prop :=
  ∀ (v : U32) (s : State),
    exec (.hbSetHour v) s = .next ((s.withHb (s.hb.set 0
      ((s.hb.get 0 &&& 0x07#8) ||| ((v &&& 0x1F#32) <<< 3).setWidth 8))).respond ⟨.ok, 0, 0, 0, 0⟩) ∧
    exec (.hbSetDay v) s = .next ((s.withHb (s.hb.set 2
      ((s.hb.get 2 &&& 0x83#8) ||| ((v &&& 0x1F#32) <<< 2).setWidth 8))).respond ⟨.ok, 0, 0, 0, 0⟩) ∧
    exec (.hbSetYear v) s = .next ((s.withHb (s.hb.set 3
      ((s.hb.get 3 &&& 0xC0#8) ||| ((v &&& 0x3F#32) <<< 0).setWidth 8))).respond ⟨.ok, 0, 0, 0, 0⟩) ∧
    exec (.hbSetTournamentType v) s = .next ((s.withHb (s.hb.set 4
      ((s.hb.get 4 &&& 0x1F#8) ||| ((v &&& 0x07#32) <<< 5).setWidth 8))).respond ⟨.ok, 0, 0, 0, 0⟩) ∧
    exec (.hbSetSystemWatchdog v) s = .next ((s.withHb (s.hb.set 4
      ((s.hb.get 4 &&& 0xEF#8) ||| ((v &&& 0x01#32) <<< 4).setWidth 8))).respond ⟨.ok, 0, 0, 0, 0⟩) ∧
    exec (.hbSetTestMode v) s = .next ((s.withHb (s.hb.set 4
      ((s.hb.get 4 &&& 0xF7#8) ||| ((v &&& 0x01#32) <<< 3).setWidth 8))).respond ⟨.ok, 0, 0, 0, 0⟩) ∧
    exec (.hbSetAutonomous v) s = .next ((s.withHb (s.hb.set 4
      ((s.hb.get 4 &&& 0xFB#8) ||| ((v &&& 0x01#32) <<< 2).setWidth 8))).respond ⟨.ok, 0, 0, 0, 0⟩) ∧
    exec (.hbSetEnabled v) s = .next ((s.withHb (s.hb.set 4
      ((s.hb.get 4 &&& 0xFD#8) ||| ((v &&& 0x01#32) <<< 1).setWidth 8))).respond ⟨.ok, 0, 0, 0, 0⟩) ∧
    exec (.hbSetRedAlliance v) s = .next ((s.withHb (s.hb.set 4
      ((s.hb.get 4 &&& 0xFE#8) ||| ((v &&& 0x01#32) <<< 0).setWidth 8))).respond ⟨.ok, 0, 0, 0, 0⟩) ∧
    exec (.hbSetReplayNumber v) s = .next ((s.withHb (s.hb.set 5
      ((s.hb.get 5 &&& 0x03#8) ||| ((v &&& 0x3F#32) <<< 2).setWidth 8))).respond ⟨.ok, 0, 0, 0, 0⟩) ∧
    exec (.hbSetMatchTimeSeconds v) s = .next ((s.withHb (s.hb.set 7
      (v.setWidth 8))).respond ⟨.ok, 0, 0, 0, 0⟩) ∧
    [
      Instr.hbSetHour v, .hbSetDay v, .hbSetYear v, .hbSetTournamentType v, .hbSetSystemWatchdog v, .hbSetTestMode v,
      .hbSetAutonomous v, .hbSetEnabled v, .hbSetRedAlliance v, .hbSetReplayNumber v, .hbSetMatchTimeSeconds v].map encodeCmd = [
      ⟨0xA0#8, v, 0, 0, 0⟩, ⟨0xA3#8, v, 0, 0, 0⟩, ⟨0xA5#8, v, 0, 0, 0⟩, ⟨0xA6#8, v, 0, 0, 0⟩, ⟨0xA7#8, v, 0, 0, 0⟩,
      ⟨0xA8#8, v, 0, 0, 0⟩, ⟨0xA9#8, v, 0, 0, 0⟩, ⟨0xAA#8, v, 0, 0, 0⟩, ⟨0xAB#8, v, 0, 0, 0⟩, ⟨0xAC#8, v, 0, 0, 0⟩,
      ⟨0xAE#8, v, 0, 0, 0⟩]

/-- R191, R192, R194, R203: the pseudocode of the four setters whose field straddles two bytes; no other byte and no other
state changes. -/
def Obligations.StraddlingSetters : Prop :=
  ∀ (v : U32) (s : State),
    exec (.hbSetMinute v) s = .next ((s.withHb ((s.hb.set 0
        ((s.hb.get 0 &&& 0xF8#8) ||| ((v >>> 3) &&& 0x07#32).setWidth 8)).set 1
        ((s.hb.get 1 &&& 0x1F#8) ||| ((v &&& 0x07#32) <<< 5).setWidth 8))).respond ⟨.ok, 0, 0, 0, 0⟩) ∧
    exec (.hbSetSecond v) s = .next ((s.withHb ((s.hb.set 1
        ((s.hb.get 1 &&& 0xE0#8) ||| ((v >>> 1) &&& 0x1F#32).setWidth 8)).set 2
        ((s.hb.get 2 &&& 0x7F#8) ||| ((v &&& 0x01#32) <<< 7).setWidth 8))).respond ⟨.ok, 0, 0, 0, 0⟩) ∧
    exec (.hbSetMonth v) s = .next ((s.withHb ((s.hb.set 2
        ((s.hb.get 2 &&& 0xFC#8) ||| ((v >>> 2) &&& 0x03#32).setWidth 8)).set 3
        ((s.hb.get 3 &&& 0x3F#8) ||| ((v &&& 0x03#32) <<< 6).setWidth 8))).respond ⟨.ok, 0, 0, 0, 0⟩) ∧
    exec (.hbSetMatchNumber v) s = .next ((s.withHb ((s.hb.set 5
        ((s.hb.get 5 &&& 0xFC#8) ||| ((v >>> 8) &&& 0x03#32).setWidth 8)).set 6
        (v.setWidth 8))).respond ⟨.ok, 0, 0, 0, 0⟩) ∧
    [
      Instr.hbSetMinute v, .hbSetSecond v, .hbSetMonth v, .hbSetMatchNumber v].map encodeCmd = [
      ⟨0xA1#8, v, 0, 0, 0⟩, ⟨0xA2#8, v, 0, 0, 0⟩, ⟨0xA4#8, v, 0, 0, 0⟩, ⟨0xAD#8, v, 0, 0, 0⟩]

/-- R62, R70, R173: each of the fifteen setter commands (named by `Field.setter`) gives the bits of its field's range of `W` the
value's low bits and leaves every other bit of `W`, and all other state, as it was. -/
def Obligations.SettersWriteTheirRange : Prop :=
  ∀ (f : Field) (v : U32) (s : State), ∃ h : HBuf,
    exec (f.setter v) s = .next ((s.withHb h).respond ⟨.ok, 0, 0, 0, 0⟩) ∧
    ∀ k : Nat, k < 64 →
      h.word64.getLsbD k =
        if fieldLow f ≤ k ∧ k < fieldLow f + fieldWidth f then v.getLsbD (k - fieldLow f) else s.hb.word64.getLsbD k

/-- The six laws of R210, for every buffer, all fields and all 32-bit values. -/
def Obligations.HeartbeatFieldLaws : Prop :=
  (∀ (h : HBuf) (i : Field) (v : U32), getField (setField h i v) i = v &&& BitVec.ofNat 32 (2 ^ fieldWidth i - 1)) ∧
  (∀ (h : HBuf) (i j : Field) (v : U32), i ≠ j → getField (setField h i v) j = getField h j) ∧
  (∀ (h : HBuf) (i : Field), setField h i (getField h i) = h) ∧
  (∀ (h : HBuf) (i : Field) (u v : U32), setField (setField h i u) i v = setField h i v) ∧
  (∀ (h : HBuf) (i j : Field) (u v : U32), i ≠ j →
    setField (setField h j u) i v = setField (setField h i v) j u) ∧
  (∀ g h : HBuf, (∀ f : Field, getField g f = getField h f) → g = h)

/-- R210, its last sentence: after `HB_CLEAR`, setters in any order that touch every field leave the getters answering the
values set, each cut to its width. -/
def Obligations.BufferRebuiltFromFields : Prop :=
  ∀ (order : List Field) (v : Field → U32), (∀ f : Field, f ∈ order) →
    ∀ f : Field, getField (order.foldl (fun h g => setField h g (v g)) HBuf.zero) f =
      v f &&& BitVec.ofNat 32 (2 ^ fieldWidth f - 1)

/-- R117, R171: a field's getter and setter commands are the primitive commands with the constant parameter word of the table,
on every state. -/
def Obligations.FieldCommandsArePrimitives : Prop :=
  (∀ (f : Field) (s : State), exec f.getter s = exec (fieldExtract f) s) ∧
  (∀ (f : Field) (v : U32) (s : State), exec (f.setter v) s = exec (fieldInsert f v) s) ∧
  (∀ f : Field, (encodeCmd (fieldExtract f)).a0 = paramWord f) ∧
  paramWord .hour = 0x0000031F#32 ∧ paramWord .minute = 0x001CD073#32 ∧ paramWord .second = 0x207D7011#32 ∧
  paramWord .day = 0x0000121F#32 ∧ paramWord .month = 0x400DE032#32 ∧ paramWord .year = 0x0000183F#32 ∧
  paramWord .tournamentType = 0x00002507#32 ∧ paramWord .systemWatchdog = 0x00002401#32 ∧
  paramWord .testMode = 0x00002301#32 ∧ paramWord .autonomous = 0x00002201#32 ∧ paramWord .enabled = 0x00002101#32 ∧
  paramWord .redAlliance = 0x00002001#32 ∧ paramWord .replayNumber = 0x00002A3F#32 ∧
  paramWord .matchNumber = 0xA00F0FF8#32 ∧ paramWord .matchTimeSeconds = 0x000038FF#32

/-- R205, R206, R207: `HB_CLEAR` zeroes the eight bytes; `HB_LOAD` stores the bytes of its operands, the first in bits 31:24;
`HB_READ` answers the eight bytes in two words and changes nothing. -/
def Obligations.WholeBufferCommands : Prop :=
  (∀ s : State, ∃ h : HBuf, exec .hbClear s = .next ((s.withHb h).respond ⟨.ok, 0, 0, 0, 0⟩) ∧
    ∀ i : Fin 8, h.get i = 0x00#8) ∧
  (∀ (a0 a1 : U32) (s : State), ∃ h : HBuf, exec (.hbLoad a0 a1) s = .next ((s.withHb h).respond ⟨.ok, 0, 0, 0, 0⟩) ∧
    h.get 0 = a0.extractLsb' 24 8 ∧ h.get 1 = a0.extractLsb' 16 8 ∧ h.get 2 = a0.extractLsb' 8 8 ∧
    h.get 3 = a0.extractLsb' 0 8 ∧ h.get 4 = a1.extractLsb' 24 8 ∧ h.get 5 = a1.extractLsb' 16 8 ∧
    h.get 6 = a1.extractLsb' 8 8 ∧ h.get 7 = a1.extractLsb' 0 8) ∧
  (∀ s : State, exec .hbRead s = .next (s.respond ⟨.ok, s.hb.get 0 ++ s.hb.get 1 ++ s.hb.get 2 ++ s.hb.get 3,
    s.hb.get 4 ++ s.hb.get 5 ++ s.hb.get 6 ++ s.hb.get 7, 0, 0⟩)) ∧
  encodeCmd .hbClear = ⟨0x90#8, 0, 0, 0, 0⟩ ∧ (∀ a0 a1 : U32, encodeCmd (.hbLoad a0 a1) = ⟨0x91#8, a0, a1, 0, 0⟩) ∧
  encodeCmd .hbRead = ⟨0x92#8, 0, 0, 0, 0⟩

/-- R207: `HB_READ` after `HB_LOAD a0, a1` answers `a0` and `a1`; and R105: loading what was read restores the buffer. -/
def Obligations.ReadAfterLoad : Prop :=
  (∀ (a0 a1 : U32) (s : State), ∃ t : State,
    exec (.hbLoad a0 a1) s = .next t ∧ exec .hbRead t = .next (t.respond ⟨.ok, a0, a1, 0, 0⟩)) ∧
  (∀ s : State, exec (.hbLoad s.hb.word0 s.hb.word1) s = .next (s.respond ⟨.ok, 0, 0, 0, 0⟩))

/-! ### All of units P, I and H -/

/-- R292, R130, R150, R170: every command of units P, I and H completes with status `OK` in every state, whatever `phase` is;
what it answers and what it does to the buffer depend on the buffer alone, and it changes nothing but the buffer and the
command port. -/
def Obligations.CodecCommandsAlwaysOk : Prop :=
  ∀ i : Instr, i.unit ≠ .dispatcher → ∃ (h : HBuf → HBuf) (r : HBuf → Rsp), ∀ s : State,
    exec i s = .next ((s.withHb (h s.hb)).respond (r s.hb)) ∧ (r s.hb).status = .ok

/-- R21: no command of unit I and no command of unit D reads or writes the buffer. Run from a state with any other buffer, the
command does the same, and the buffer it leaves is the one it found. For a `STEP` that goes on
after a wait, `ResumedStepKeepsState` says so. -/
def Obligations.IdentifierAndDispatcherIgnoreBuffer : Prop :=
  ∀ (i : Instr) (s t : State), i.unit = .identifier ∨ i.unit = .dispatcher → exec i s = .next t →
    t.hb = s.hb ∧ ∀ h : HBuf, exec i (s.withHb h) = .next (t.withHb h)

/-! ### Unit D: guard and registrations -/

/-- R231: every unit D command answers `FAULTED` in `FAULTED`, and `BUSY` while a `STEP` is in progress, with results zero and
no state change. -/
def Obligations.GuardRefuses : Prop :=
  ∀ (i : Instr) (s : State), i.unit = .dispatcher →
    (s.phase = .faulted → exec i s = .next (s.respond ⟨.faulted, 0, 0, 0, 0⟩)) ∧
    (s.phase ≠ .faulted → s.phase ≠ .idle → exec i s = .next (s.respond ⟨.busy, 0, 0, 0, 0⟩))

/-- R236: `REG_HANDLER`: the guard; then `DUP` when the key is in `DATA_TABLE`, even in a full table; `FULL` when the table is at its
capacity; else one new entry and `OK`, every other key reading as before. `RTR_TABLE` and all other state are unchanged. -/
def Obligations.RegHandlerRegisters : Prop :=
  ∀ (id hid : U32) (s : State), encodeCmd (.regHandler id hid) = ⟨0xC0#8, id, hid, 0, 0⟩ ∧
    (s.phase = .faulted → exec (.regHandler id hid) s = .next (s.respond ⟨.faulted, 0, 0, 0, 0⟩)) ∧
    (s.phase ≠ .faulted → s.phase ≠ .idle → exec (.regHandler id hid) s = .next (s.respond ⟨.busy, 0, 0, 0, 0⟩)) ∧
    (s.phase = .idle → lookup s.dataTable id ≠ none → exec (.regHandler id hid) s = .next (s.respond ⟨.dup, 0, 0, 0, 0⟩)) ∧
    (s.phase = .idle → lookup s.dataTable id = none → s.cfg.capData = some s.dataTable.length →
      exec (.regHandler id hid) s = .next (s.respond ⟨.full, 0, 0, 0, 0⟩)) ∧
    (s.phase = .idle → lookup s.dataTable id = none → s.cfg.capData ≠ some s.dataTable.length →
      ∃ table : List Entry, exec (.regHandler id hid) s = .next ((s.withDataTable table).respond ⟨.ok, 0, 0, 0, 0⟩) ∧
        (∀ k : U32, lookup table k = if k = id then some hid else lookup s.dataTable k) ∧
        table.length = s.dataTable.length + 1)

/-- R238: `REG_RTR_HANDLER`, as R236 with the tables exchanged. -/
def Obligations.RegRtrHandlerRegisters : Prop :=
  ∀ (id hid : U32) (s : State), encodeCmd (.regRtrHandler id hid) = ⟨0xC1#8, id, hid, 0, 0⟩ ∧
    (s.phase = .faulted → exec (.regRtrHandler id hid) s = .next (s.respond ⟨.faulted, 0, 0, 0, 0⟩)) ∧
    (s.phase ≠ .faulted → s.phase ≠ .idle → exec (.regRtrHandler id hid) s = .next (s.respond ⟨.busy, 0, 0, 0, 0⟩)) ∧
    (s.phase = .idle → lookup s.rtrTable id ≠ none → exec (.regRtrHandler id hid) s = .next (s.respond ⟨.dup, 0, 0, 0, 0⟩)) ∧
    (s.phase = .idle → lookup s.rtrTable id = none → s.cfg.capRtr = some s.rtrTable.length →
      exec (.regRtrHandler id hid) s = .next (s.respond ⟨.full, 0, 0, 0, 0⟩)) ∧
    (s.phase = .idle → lookup s.rtrTable id = none → s.cfg.capRtr ≠ some s.rtrTable.length →
      ∃ table : List Entry, exec (.regRtrHandler id hid) s = .next ((s.withRtrTable table).respond ⟨.ok, 0, 0, 0, 0⟩) ∧
        (∀ k : U32, lookup table k = if k = id then some hid else lookup s.rtrTable k) ∧
        table.length = s.rtrTable.length + 1)

/-- R239, R240: `REG_UNMATCHED` and `REG_TIMEOUT`: the guard; then each sets its slot, whatever it held, and changes nothing
else. -/
def Obligations.RegSlotsOverwrite : Prop :=
  ∀ (hid : U32) (s : State), encodeCmd (.regUnmatched hid) = ⟨0xC2#8, hid, 0, 0, 0⟩ ∧
    encodeCmd (.regTimeout hid) = ⟨0xC3#8, hid, 0, 0, 0⟩ ∧
    (s.phase = .faulted → exec (.regUnmatched hid) s = .next (s.respond ⟨.faulted, 0, 0, 0, 0⟩) ∧
      exec (.regTimeout hid) s = .next (s.respond ⟨.faulted, 0, 0, 0, 0⟩)) ∧
    (s.phase ≠ .faulted → s.phase ≠ .idle → exec (.regUnmatched hid) s = .next (s.respond ⟨.busy, 0, 0, 0, 0⟩) ∧
      exec (.regTimeout hid) s = .next (s.respond ⟨.busy, 0, 0, 0, 0⟩)) ∧
    (s.phase = .idle → exec (.regUnmatched hid) s = .next ((s.withUnm ⟨true, hid⟩).respond ⟨.ok, 0, 0, 0, 0⟩) ∧
      exec (.regTimeout hid) s = .next ((s.withTmo ⟨true, hid⟩).respond ⟨.ok, 0, 0, 0, 0⟩))

/-- R241: `REG_ITERATION`: the guard; then `FULL` when the list is at its capacity, else the tag is appended, duplicates included. -/
def Obligations.RegIterationAppends : Prop :=
  ∀ (hid : U32) (s : State), encodeCmd (.regIteration hid) = ⟨0xC4#8, hid, 0, 0, 0⟩ ∧
    (s.phase = .faulted → exec (.regIteration hid) s = .next (s.respond ⟨.faulted, 0, 0, 0, 0⟩)) ∧
    (s.phase ≠ .faulted → s.phase ≠ .idle → exec (.regIteration hid) s = .next (s.respond ⟨.busy, 0, 0, 0, 0⟩)) ∧
    (s.phase = .idle → s.cfg.capIter = some s.iter.length → exec (.regIteration hid) s = .next (s.respond ⟨.full, 0, 0, 0, 0⟩)) ∧
    (s.phase = .idle → s.cfg.capIter ≠ some s.iter.length →
      exec (.regIteration hid) s = .next ((s.withIter (s.iter ++ [hid])).respond ⟨.ok, 0, 0, 0, 0⟩))

/-- R117, R28: `register_iteration` of a list appends the whole list in order when the capacity allows it (here: a list that
fits, or no capacity), one `OK` for each. -/
def Obligations.ListRegistrationAppendsInOrder : Prop :=
  ∀ (hids : List U32) (s : State), s.phase = .idle →
    (∀ c : Nat, s.cfg.capIter = some c → s.iter.length + hids.length ≤ c) →
    ∃ t : State, execList (expand (.registerIterationList hids)) s = .next t ∧ t.iter = s.iter ++ hids ∧
      t.rsps = s.rsps ++ hids.map (fun _ => (⟨.ok, 0, 0, 0, 0⟩ : Rsp)) ∧ t.phase = .idle ∧
      t.dataTable = s.dataTable ∧ t.rtrTable = s.rtrTable ∧ t.unm = s.unm ∧ t.tmo = s.tmo ∧ t.hb = s.hb

/-- R24 to R28: each piece of routing state is written by its own registration command and by no other command. A `STEP`
that goes on after a wait is `ResumedStepKeepsState`. -/
def Obligations.OnlyRegistrationsWriteRouting : Prop :=
  ∀ (i : Instr) (s t : State), exec i s = .next t →
    (t.dataTable ≠ s.dataTable → ∃ id hid : U32, i = .regHandler id hid) ∧
    (t.rtrTable ≠ s.rtrTable → ∃ id hid : U32, i = .regRtrHandler id hid) ∧
    (t.unm ≠ s.unm → ∃ hid : U32, i = .regUnmatched hid) ∧
    (t.tmo ≠ s.tmo → ∃ hid : U32, i = .regTimeout hid) ∧
    (t.iter ≠ s.iter → ∃ hid : U32, i = .regIteration hid) ∧
    t.cfg = s.cfg

/-! ### Unit D: `STEP` -/

/-- R246, R252, R253: a frame is routed by its kind bit and all 32 bits of its identifier, first to the table of its own kind,
then to the unmatched-handler; an entry of the other table, the `extended` tag, the length and the payload take no part. -/
def Obligations.FrameRouting : Prop :=
  ∀ (s : State) (f : CanFrame),
    (∀ h : U32, f.isRemoteRequest = false → lookup s.dataTable f.identifier = some h → route s f = some (.data, h)) ∧
    (∀ h : U32, f.isRemoteRequest = true → lookup s.rtrTable f.identifier = some h → route s f = some (.rtr, h)) ∧
    ((if f.isRemoteRequest then lookup s.rtrTable f.identifier else lookup s.dataTable f.identifier) = none →
      route s f = if s.unm.valid then some (.unmatched, s.unm.hid) else none) ∧
    (∀ (ext : Bool) (len : BitVec 4) (data : BitVec 64),
      route s { f with extended := ext, len := len, data := data } = route s f)

/-- R245, R329: a `STEP` in `IDLE` to which the transport has not answered is in `WAIT` with `TIMEOUT` handed on unchanged, and
stays so, all state as it was, until an answer comes or a reset. When the answer comes late, the waiting `STEP` does what it
would have done had the answer been there (R244, R329). -/
def Obligations.StepWaitsForTransport : Prop :=
  (∀ s : State, s.phase = .idle → s.rxDue = [] →
    exec .step s = .next ((s.withPhase .wait).withAwait (.receive s.cfg.timeout))) ∧
  (∀ (t : State) (tm : Nat), t.await = .receive tm → t.rxDue = [] → t.resetReq = false → step t = .next t) ∧
  (∀ (s : State) (rx : List RecvResponse), s.phase = .idle → s.resetReq = false →
    step (((s.withPhase .wait).withAwait (.receive s.cfg.timeout)).withRx rx) = exec .step (s.withRx rx))

/-- R244, R263, R329: wherever a `STEP` waits, in the first or a later `receive`, in `has_pending` or in a callback, the answers
that come then take it on as they would have had they been there from the start. At a callback this is said where the callback
agent's next act is not a command of its own (that case is `CallbackAgentChangesOnlyBuffer`). -/
def Obligations.WaitingStepGoesOn : Prop :=
  ∀ s w : State, s.phase = .idle → s.resetReq = false → exec .step s = .next w →
    (∀ (tm : Nat) (more : List RecvResponse), w.await = .receive tm →
      step (w.withRx (w.rx ++ more)) = exec .step (s.withRx (s.rx ++ more))) ∧
    (∀ more : List Bool, w.await = .hasPending →
      step (w.withPend (w.pend ++ more)) = exec .step (s.withPend (s.pend ++ more))) ∧
    (∀ (req : CbRequest) (more : List CbEvent), w.await = .callback req →
      (∀ (c : PortWord) (rest : List CbEvent), (w.withCb (w.cb ++ more)).cbDue ≠ .command c :: rest) →
      step (w.withCb (w.cb ++ more)) = exec .step (s.withCb (s.cb ++ more)))

/-- R21, R24 to R29, R41, R45: a `STEP` that goes on after a wait leaves the buffer, the tables, the slots, the iteration list and
the parameters as they were, does the same whatever the buffer holds, and does not read the tag of a slot that is not valid. What
the callback agent changes by a command of its own is `CallbackAgentChangesOnlyBuffer`. -/
def Obligations.ResumedStepKeepsState : Prop :=
  ∀ s t : State, Good s → s.resetReq = false → stepInProgress s →
    (∀ (req : CbRequest) (w : PortWord) (rest : List CbEvent), s.await = .callback req → s.cbDue ≠ .command w :: rest) →
    step s = .next t →
    t.hb = s.hb ∧ sameRouting s t ∧ t.cfg = s.cfg ∧
    (∀ h : HBuf, step (s.withHb h) = .next (t.withHb h)) ∧
    (∀ h : U32, s.unm.valid = false → step (s.withUnm ⟨false, h⟩) = .next (t.withUnm ⟨false, h⟩)) ∧
    (∀ h : U32, s.tmo.valid = false → step (s.withTmo ⟨false, h⟩) = .next (t.withTmo ⟨false, h⟩))

/-- R304, R245, R97: callback entry. The first thing a `STEP` asks of a callback: a received frame's handler, with the frame; on a
timeout the timeout-handler; else the first iteration callback, both without a frame. The request record is presented and the
block waits; nothing is saved, and beyond `phase`, the scratch registers, the received answer and its trace event nothing
changes. Stated where the callback agent does not answer at once. -/
def Obligations.CallbackEntryPresentsRequest : Prop :=
  ∀ (s : State) (r : RecvResponse) (rx : List RecvResponse),
    s.phase = .idle → s.rxDue = r :: rx →
    (s.cbDue = [] ∨ ∃ (w : PortWord) (rest : List CbEvent), s.cbDue = .command w :: rest) →
    (∀ (k : CbKind) (h : U32), r.hasFrame = true → route s r.frame = some (k, h) →
      exec .step s = .next (((((s.takeRx rx).log (.recv (some r.frame))).withPhase .dispatch).withCur r.frame).withAwait
        (.callback ⟨k, h, some r.frame⟩))) ∧
    (r.hasFrame = false → s.tmo.valid = true →
      exec .step s = .next ((((s.takeRx rx).log (.recv none)).withPhase .tmout).withAwait
        (.callback ⟨.timeout, s.tmo.hid, none⟩))) ∧
    (∀ (h : U32) (rest : List U32), r.hasFrame = false → s.tmo.valid = false → s.iter = h :: rest →
      exec .step s = .next (((((s.takeRx rx).log (.recv none)).withPhase .iterate).withIterIdx 0).withAwait
        (.callback ⟨.iter, h, none⟩)))

/-- R306, R250, R97: callback return. The outstanding invocation answers without a fault: the trace gets its `Invoke` and, for a
returned frame whose kind sends, the `Send` of exactly that frame; no `FAULTED` comes of it, the buffer and the routing state
stay, the record is taken from the port, and the `STEP` goes on from there. -/
def Obligations.CallbackReturnSends : Prop :=
  ∀ (s : State) (req : CbRequest) (r : CbResponse) (rest : List CbEvent),
    Good s → s.resetReq = false → s.await = .callback req → s.cbDue = .answer r :: rest → r.fault = false →
    ∃ t : State, advance s = some t ∧ step s = .next (resume t) ∧
      t.trace = s.trace ++ callEvents s.cfg req (if r.hasFrame then some r.frame else none) ∧
      t.phase ≠ .faulted ∧ t.hb = s.hb ∧ sameRouting s t ∧ t.cbDue = rest ∧ t.rx = s.rx ∧ t.pend = s.pend

/-- R245, R248, R249, a `STEP` whose wait times out runs to its end when every callback answers: the timeout-handler if one is
set, then every iteration callback once, in registration order, each returned frame sent at once when sending is enabled; status
`OK`, `phase = IDLE`; everything else is as it was. -/
def Obligations.StepOnTimeout : Prop :=
  ∀ (s : State) (r : RecvResponse) (rx : List RecvResponse) (answers : List CbResponse) (gs : List (Option CanFrame))
    (cb : List CbEvent),
    s.phase = .idle → s.rxDue = r :: rx → r.hasFrame = false →
    s.cbDue = answers.map CbEvent.answer ++ cb → answers.map CbResponse.meaning = gs.map Answer.ret →
    answers.length = (timeoutCalls s ++ iterationCalls s).length →
    ∃ t : State, exec .step s = .next t ∧
      t.trace = s.trace ++ .recv none :: callsEvents s.cfg (timeoutCalls s ++ iterationCalls s) gs ∧
      t.rsps = s.rsps ++ [⟨.ok, 0, 0, 0, 0⟩] ∧ t.phase = .idle ∧ t.await = .none ∧ t.rxDue = rx ∧ t.cbDue = cb ∧
      t.pendDue = s.pendDue ∧ t.hb = s.hb ∧ sameRouting s t ∧ t.cfg = s.cfg ∧ t.cmds = s.cmds ∧ t.pins = s.pins ∧
      t.resetReq = s.resetReq

/-- R245 to R247, R249, R254, a `STEP` in non-drain mode that receives a frame handles exactly that frame (its callback, or the
frame is dropped), asks for no more, runs the iteration callbacks and ends `OK`; the other queued frames stay. -/
def Obligations.StepOnOneFrame : Prop :=
  ∀ (s : State) (r : RecvResponse) (rx : List RecvResponse) (answers : List CbResponse) (gs : List (Option CanFrame))
    (cb : List CbEvent),
    s.phase = .idle → s.cfg.drainQueue = false → s.rxDue = r :: rx → r.hasFrame = true →
    s.cbDue = answers.map CbEvent.answer ++ cb → answers.map CbResponse.meaning = gs.map Answer.ret →
    answers.length = (frameCalls s r.frame ++ iterationCalls s).length →
    ∃ t : State, exec .step s = .next t ∧
      t.trace = s.trace ++ .recv (some r.frame) :: callsEvents s.cfg (frameCalls s r.frame ++ iterationCalls s) gs ∧
      t.rsps = s.rsps ++ [⟨.ok, 0, 0, 0, 0⟩] ∧ t.phase = .idle ∧ t.await = .none ∧ t.rxDue = rx ∧ t.cbDue = cb ∧
      t.pendDue = s.pendDue ∧ t.hb = s.hb ∧ sameRouting s t ∧ t.cfg = s.cfg ∧ t.cmds = s.cmds ∧ t.pins = s.pins ∧
      t.resetReq = s.resetReq

/-- R247, R249, R264: in drain mode one `STEP` handles every queued frame in order, asking `has_pending` after each, and only
then runs the iteration callbacks, once. Stated for a row of frames each of which is routed to a callback. -/
def Obligations.StepDrainsQueue : Prop :=
  ∀ (s : State) (f : CanFrame) (fs : List CanFrame) (rx : List RecvResponse) (pend : List Bool)
    (answers : List CbResponse) (gs hs : List (Option CanFrame)) (cb : List CbEvent),
    s.phase = .idle → s.cfg.drainQueue = true →
    s.rxDue = (f :: fs).map (fun g => ⟨true, g⟩) ++ rx → s.pendDue = fs.map (fun _ => true) ++ false :: pend →
    (∀ g ∈ f :: fs, frameCalls s g ≠ []) →
    s.cbDue = answers.map CbEvent.answer ++ cb → answers.map CbResponse.meaning = (gs ++ hs).map Answer.ret →
    gs.length = (f :: fs).length → hs.length = s.iter.length →
    ∃ t : State, exec .step s = .next t ∧
      t.trace = s.trace ++ drainEvents s (f :: fs) gs ++ callsEvents s.cfg (iterationCalls s) hs ∧
      t.rsps = s.rsps ++ [⟨.ok, 0, 0, 0, 0⟩] ∧ t.phase = .idle ∧ t.await = .none ∧ t.rxDue = rx ∧
      t.pendDue = pend ∧ t.cbDue = cb ∧ t.hb = s.hb ∧ sameRouting s t ∧ t.cfg = s.cfg ∧ t.cmds = s.cmds

/-- R244, R245: the state machine and the big-step pseudocode agree: wherever the pseudocode runs to its end, in success or in a
callback failure, `STEP` gives the same state, trace and status included. The whole state is
compared: that `iter_idx` and `cur` keep what was last written, which R31 leaves unspecified, is the model's choice in both
forms (log entry 16). -/
def Obligations.StepAgreesWithPseudocode : Prop :=
  ∀ s t : State, s.phase = .idle → s.await = .none → (bigStep s = .going t ∨ bigStep s = .failed t) →
    exec .step s = .next t

/-- R251: when the outstanding invocation answers `Fault`, whatever the record's other fields hold (R97), the `STEP` ends at
once: `phase = FAULTED`, status `FAULTED`, the failing `Invoke` is the trace's last event, nothing is sent, no further answer of
any port is taken, and nothing else changes; that `iter_idx` and `cur` too stay as they
were, which R31 leaves unspecified, is the model's choice (log entry 16). -/
def Obligations.CallbackFailureEndsStep : Prop :=
  ∀ (s : State) (req : CbRequest) (r : CbResponse) (rest : List CbEvent),
    s.resetReq = false → s.await = .callback req → s.cbDue = .answer r :: rest → r.fault = true →
    step s = .next ((((((s.takeCb rest).log (.invoke req .fault)).withPhase .faulted).withAwait .none)).respond
      ⟨.faulted, 0, 0, 0, 0⟩)

/-- R251, R291: `FAULTED` is left by no command of any unit: without a reset request every step from it stays in it, leaves the
routing state alone, and asks nothing of the transport or of a callback. -/
def Obligations.FaultedIsSticky : Prop :=
  ∀ s t : State, s.phase = .faulted → s.await = .none → s.resetReq = false → step s = .next t →
    t.phase = .faulted ∧ t.await = .none ∧ sameRouting s t ∧ t.trace = s.trace ∧ t.rx = s.rx ∧ t.pend = s.pend ∧
    t.cb = s.cb ∧ t.late = s.late

/-- R244: one answer of the environment moves `phase` only along the listed transitions (several may follow each other without
an answer between them): `WAIT` is never re-entered, and no answer moves `IDLE` or `FAULTED`. -/
def Obligations.PhaseFollowsTransitions : Prop :=
  ∀ s t : State, Good s → advance s = some t →
    (s.phase = .wait ∧ (t.phase = .dispatch ∨ t.phase = .tmout ∨ t.phase = .iterate ∨ t.phase = .idle)) ∨
    (s.phase = .dispatch ∧ (t.phase = .dispatch ∨ t.phase = .iterate ∨ t.phase = .idle ∨ t.phase = .faulted)) ∨
    (s.phase = .tmout ∧ (t.phase = .iterate ∨ t.phase = .idle ∨ t.phase = .faulted)) ∨
    (s.phase = .iterate ∧ (t.phase = .iterate ∨ t.phase = .idle ∨ t.phase = .faulted))

/-- R76, R264: the events a step adds to the trace: every `Send(g)` follows at once an `Invoke` that returned `Some g`, so no
step has more `Send` than `Invoke` events; the old trace is kept. -/
def Obligations.SendsFollowTheirInvocation : Prop :=
  ∀ s t : State, step s = .next t →
    ∃ events : List Event, t.trace = s.trace ++ events ∧ sendsFollow events = true ∧ sendCount events ≤ invokeCount events

/-- R264: over one whole `STEP` that ends `OK`, with all its waits, late answers and nested commands (`OneStep`), the number of
`Recv` events is 1 in non-drain mode; in drain mode it is one more than the number of `Pending(1)` events. -/
def Obligations.ReceivesPerStep : Prop :=
  ∀ s t : State, s.phase = .idle → OneStep s t → t.phase = .idle →
    ∃ events : List Event, t.trace = s.trace ++ events ∧
      recvCount events = 1 + pendingCount events ∧ (s.cfg.drainQueue = false → pendingCount events = 0)

/-- R26, R27, R45: the tag of a slot that is not valid is never read: a `STEP` does the same whatever it is. For a `STEP` that
goes on after a wait, `ResumedStepKeepsState` says so. -/
def Obligations.InvalidSlotsAreNotRead : Prop :=
  ∀ (s t : State) (h : U32), exec .step s = .next t →
    (s.unm.valid = false → exec .step (s.withUnm ⟨false, h⟩) = .next (t.withUnm ⟨false, h⟩)) ∧
    (s.tmo.valid = false → exec .step (s.withTmo ⟨false, h⟩) = .next (t.withTmo ⟨false, h⟩))

/-- R41: a command the callback agent issues during an invocation leaves the dispatcher's state and the invocation as they are;
and `HB` may take any value: for every buffer there is a command word that makes it. -/
def Obligations.CallbackAgentChangesOnlyBuffer : Prop :=
  ∀ (s : State) (req : CbRequest), s.resetReq = false → s.await = .callback req → stepInProgress s →
    (∀ (t : State) (w : PortWord) (rest : List CbEvent), s.cbDue = .command w :: rest → step s = .next t →
      sameRouting s t ∧ t.phase = s.phase ∧ t.await = s.await ∧ t.cur = s.cur ∧ t.iterIdx = s.iterIdx ∧
      t.trace = s.trace ∧ t.rx = s.rx ∧ t.pend = s.pend ∧ t.cbDue = rest) ∧
    (∀ (h : HBuf) (rest : List CbEvent), s.cbDue = .command (encode (.hbLoad h.word0 h.word1)) :: rest →
      step s = .next (((s.takeCb rest).withHb h).respond ⟨.ok, 0, 0, 0, 0⟩))

/-- R16, R30, R36: while a `STEP` is in progress no command of the host is taken, and while none is, nothing is taken from the
transport's or the callback agent's ports but by the command the host issues. -/
def Obligations.HostWaitsForStep : Prop :=
  (∀ s t : State, Good s → s.resetReq = false → stepInProgress s → step s = .next t → t.cmds = s.cmds) ∧
  (∀ s : State, s.resetReq = false → s.await = .none → s.cmds = [] → step s = .next s)

/-! ### Reset and the invariant -/

/-- R45: the values the spec gives for reset. -/
def Obligations.ResetValues : Prop :=
  (∀ i : Fin 8, State.reset.hb.get i = 0x00#8) ∧ State.reset.dataTable = [] ∧ State.reset.rtrTable = [] ∧
  State.reset.unm.valid = false ∧ State.reset.tmo.valid = false ∧ State.reset.iter = [] ∧ State.reset.phase = .idle ∧
  State.reset.cfg.drainQueue = Config.drainQueueInput ∧ State.reset.cfg.timeout = Config.timeoutInput

/-- R340: a reset request is served before anything else, in every state and also during a `STEP`: every piece of state takes
its reset value, the configuration inputs are sampled, the step is abandoned, the ports' queues are not touched, and the answer to
the abandoned request is ignored, be it there already or still to come (`more`), at whatever port: the next answer that counts is
the one after it. The model's own choices among these clauses: that the abandoned `STEP` adds no response, that the capacities and
`FALLBACK_SENDS` and the host's waiting words stay, and that the commands of an abandoned invocation are ignored with its answer
(log entry 4); that responses and trace stay (log entry 9). -/
def Obligations.ResetAbandonsStep : Prop :=
  ∀ s : State, s.resetReq = true → ∃ t : State, step s = .next t ∧
    (∀ i : Fin 8, t.hb.get i = 0x00#8) ∧ t.dataTable = [] ∧ t.rtrTable = [] ∧ t.unm.valid = false ∧ t.tmo.valid = false ∧
    t.iter = [] ∧ t.phase = .idle ∧ t.await = .none ∧ t.resetReq = false ∧
    t.cfg.drainQueue = s.pins.drainQueue ∧ t.cfg.timeout = s.pins.timeout ∧ t.cfg.capData = s.cfg.capData ∧
    t.cfg.capRtr = s.cfg.capRtr ∧ t.cfg.capIter = s.cfg.capIter ∧ t.cfg.fallbackSends = s.cfg.fallbackSends ∧
    t.cmds = s.cmds ∧ t.rx = s.rx ∧ t.pend = s.pend ∧ t.cb = s.cb ∧ t.rsps = s.rsps ∧ t.trace = s.trace ∧
    (∀ (tm : Nat) (more rest : List RecvResponse) (r : RecvResponse), s.await = .receive tm →
      (s.withRx (s.rx ++ more)).rxDue = r :: rest → (t.withRx (t.rx ++ more)).rxDue = rest) ∧
    ((∀ tm : Nat, s.await ≠ .receive tm) → ∀ rx : List RecvResponse, (t.withRx rx).rxDue = (s.withRx rx).rxDue) ∧
    (∀ (more rest : List Bool) (p : Bool), s.await = .hasPending →
      (s.withPend (s.pend ++ more)).pendDue = p :: rest → (t.withPend (t.pend ++ more)).pendDue = rest) ∧
    (s.await ≠ .hasPending → ∀ pend : List Bool, (t.withPend pend).pendDue = (s.withPend pend).pendDue) ∧
    (∀ (req : CbRequest) (more rest : List CbEvent) (ws : List PortWord) (r : CbResponse), s.await = .callback req →
      (s.withCb (s.cb ++ more)).cbDue = ws.map CbEvent.command ++ .answer r :: rest →
      (t.withCb (t.cb ++ more)).cbDue = rest) ∧
    ((∀ req : CbRequest, s.await ≠ .callback req) → ∀ cb : List CbEvent, (t.withCb cb).cbDue = (s.withCb cb).cbDue)

/-- The invariant of the block holds after reset (R24, R25, R28, R30, R45). -/
def Obligations.GoodAtReset : Prop :=
  Good State.reset

/-- Every step keeps the invariant: the tables stay in canonical form with unique keys and within their capacities, the
iteration list within its own, and `phase` agrees with the request outstanding on the ports (R24, R25, R28, R30, R244). -/
def Obligations.StepKeepsGood : Prop :=
  ∀ s t : State, Good s → step s = .next t → Good t
end

