-- ==== Sys2Proof/Laws/Buffer.lean ====
section
/-! SUPPORT. The heartbeat buffer: read after write, extensionality, and what the primitives do bit by bit
(40_bitfield_primitives.md R131, R134). -/

namespace Sys2Proof.Machine

@[simp] theorem HBuf.get_set_same (h : HBuf) (i : Fin 8) (v : Byte) : (h.set i v).get i = v := by
  fin_cases i <;> rfl

@[simp] theorem HBuf.get_set_other (h : HBuf) {i j : Fin 8} (v : Byte) (hij : j ≠ i) : (h.set i v).get j = h.get j := by
  fin_cases i <;> fin_cases j <;> first | rfl | exact absurd rfl hij

/-- One byte after a write, in one equation. -/
theorem HBuf.get_set (h : HBuf) (i j : Fin 8) (v : Byte) : (h.set i v).get j = if j = i then v else h.get j := by
  by_cases hij : j = i
  · subst hij; simp
  · simp [hij]

/-- A buffer is its eight bytes. -/
theorem HBuf.ext_get {g h : HBuf} (e : ∀ i, g.get i = h.get i) : g = h := by
  obtain ⟨_, _, _, _, _, _, _, _⟩ := g
  obtain ⟨_, _, _, _, _, _, _, _⟩ := h
  have e0 := e 0; have e1 := e 1; have e2 := e 2; have e3 := e 3
  have e4 := e 4; have e5 := e 5; have e6 := e 6; have e7 := e 7
  simp only [HBuf.get] at e0 e1 e2 e3 e4 e5 e6 e7
  simp_all

@[simp] theorem HBuf.set_get (h : HBuf) (i : Fin 8) : h.set i (h.get i) = h := by
  fin_cases i <;> rfl

@[simp] theorem HBuf.set_set (h : HBuf) (i : Fin 8) (u v : Byte) : (h.set i u).set i v = h.set i v := by
  fin_cases i <;> rfl

theorem HBuf.set_comm (h : HBuf) {i j : Fin 8} (u v : Byte) (hij : i ≠ j) :
    (h.set i u).set j v = (h.set j v).set i u := by
  fin_cases i <;> fin_cases j <;> first | rfl | exact absurd rfl hij

/-- A bit of an extracted field is the bit `lsb` places up in its byte, under the mask (R131). -/
theorem getLsbD_extractSingle (h : HBuf) (p : SingleParam) (k : Nat) :
    (extractSingle h p).getLsbD k = ((h.get p.byteIndex).getLsbD (p.lsb.toNat + k) && p.widthMask.getLsbD k) := by
  simp [extractSingle, BitVec.getLsbD_ushiftRight]

/-- A bit of the byte belongs to the field when the mask, moved up by `lsb`, has it (R134). -/
theorem getLsbD_placeMask (p : SingleParam) (k : Nat) :
    (placeMask p).getLsbD k = (decide (k < 8) && decide (p.lsb.toNat ≤ k) && p.widthMask.getLsbD (k - p.lsb.toNat)) := by
  simp only [placeMask, BitVec.getLsbD_setWidth, BitVec.getLsbD_shiftLeft]
  have := p.lsb.isLt
  grind

/-- A bit of the inserted byte comes from the masked value (R134). -/
theorem getLsbD_insertedBits (v : U32) (p : SingleParam) (k : Nat) :
    (insertedBits v p).getLsbD k =
      (decide (k < 8) && decide (p.lsb.toNat ≤ k) && v.getLsbD (k - p.lsb.toNat) && p.widthMask.getLsbD (k - p.lsb.toNat)) := by
  simp only [insertedBits, BitVec.getLsbD_setWidth, BitVec.getLsbD_shiftLeft, BitVec.getLsbD_and]
  have := p.lsb.isLt
  grind

/-- What `insert_single` does, byte by byte: the addressed byte takes the new value, the others stay (R134). -/
theorem get_insertSingle (h : HBuf) (v : U32) (p : SingleParam) (i : Fin 8) :
    (insertSingle h v p).get i =
      if i = p.byteIndex then (h.get i &&& ~~~placeMask p) ||| insertedBits v p else h.get i := by
  unfold insertSingle
  rw [HBuf.get_set]
  split_ifs with e
  · rw [e]
  · rfl

/-- What every getter command does. -/
@[simp] theorem readField_eq (f : Field) (s : State) : readField f s = s.respond (okRsp (getField s.hb f) 0 0 0) := rfl

/-- What every setter command does. -/
@[simp] theorem writeField_eq (f : Field) (v : U32) (s : State) :
    writeField f v s = (s.withHb (setField s.hb f v)).respond okOnly := rfl

end Sys2Proof.Machine
end

