-- ==== Sys2Proof/Laws/State.lean ====
section
/-! SUPPORT. One lemma per field per named update of the state, true by unfolding, so that no proof unfolds a record update. The
answers that count (`rxDue`, `pendDue`, `cbDue`) are treated as fields. -/

namespace Sys2Proof.Machine

@[simp] theorem State.withHb_hb (s : State) (v : HBuf) : (s.withHb v).hb = v := rfl
@[simp] theorem State.withHb_dataTable (s : State) (v : HBuf) : (s.withHb v).dataTable = s.dataTable := rfl
@[simp] theorem State.withHb_rtrTable (s : State) (v : HBuf) : (s.withHb v).rtrTable = s.rtrTable := rfl
@[simp] theorem State.withHb_unm (s : State) (v : HBuf) : (s.withHb v).unm = s.unm := rfl
@[simp] theorem State.withHb_tmo (s : State) (v : HBuf) : (s.withHb v).tmo = s.tmo := rfl
@[simp] theorem State.withHb_iter (s : State) (v : HBuf) : (s.withHb v).iter = s.iter := rfl
@[simp] theorem State.withHb_phase (s : State) (v : HBuf) : (s.withHb v).phase = s.phase := rfl
@[simp] theorem State.withHb_iterIdx (s : State) (v : HBuf) : (s.withHb v).iterIdx = s.iterIdx := rfl
@[simp] theorem State.withHb_cur (s : State) (v : HBuf) : (s.withHb v).cur = s.cur := rfl
@[simp] theorem State.withHb_cfg (s : State) (v : HBuf) : (s.withHb v).cfg = s.cfg := rfl
@[simp] theorem State.withHb_pins (s : State) (v : HBuf) : (s.withHb v).pins = s.pins := rfl
@[simp] theorem State.withHb_resetReq (s : State) (v : HBuf) : (s.withHb v).resetReq = s.resetReq := rfl
@[simp] theorem State.withHb_await (s : State) (v : HBuf) : (s.withHb v).await = s.await := rfl
@[simp] theorem State.withHb_late (s : State) (v : HBuf) : (s.withHb v).late = s.late := rfl
@[simp] theorem State.withHb_cmds (s : State) (v : HBuf) : (s.withHb v).cmds = s.cmds := rfl
@[simp] theorem State.withHb_rx (s : State) (v : HBuf) : (s.withHb v).rx = s.rx := rfl
@[simp] theorem State.withHb_pend (s : State) (v : HBuf) : (s.withHb v).pend = s.pend := rfl
@[simp] theorem State.withHb_cb (s : State) (v : HBuf) : (s.withHb v).cb = s.cb := rfl
@[simp] theorem State.withHb_rsps (s : State) (v : HBuf) : (s.withHb v).rsps = s.rsps := rfl
@[simp] theorem State.withHb_trace (s : State) (v : HBuf) : (s.withHb v).trace = s.trace := rfl
@[simp] theorem State.withHb_rxDue (s : State) (v : HBuf) : (s.withHb v).rxDue = s.rxDue := rfl
@[simp] theorem State.withHb_pendDue (s : State) (v : HBuf) : (s.withHb v).pendDue = s.pendDue := rfl
@[simp] theorem State.withHb_cbDue (s : State) (v : HBuf) : (s.withHb v).cbDue = s.cbDue := rfl

@[simp] theorem State.withDataTable_hb (s : State) (v : List Entry) : (s.withDataTable v).hb = s.hb := rfl
@[simp] theorem State.withDataTable_dataTable (s : State) (v : List Entry) : (s.withDataTable v).dataTable = v := rfl
@[simp] theorem State.withDataTable_rtrTable (s : State) (v : List Entry) : (s.withDataTable v).rtrTable = s.rtrTable := rfl
@[simp] theorem State.withDataTable_unm (s : State) (v : List Entry) : (s.withDataTable v).unm = s.unm := rfl
@[simp] theorem State.withDataTable_tmo (s : State) (v : List Entry) : (s.withDataTable v).tmo = s.tmo := rfl
@[simp] theorem State.withDataTable_iter (s : State) (v : List Entry) : (s.withDataTable v).iter = s.iter := rfl
@[simp] theorem State.withDataTable_phase (s : State) (v : List Entry) : (s.withDataTable v).phase = s.phase := rfl
@[simp] theorem State.withDataTable_iterIdx (s : State) (v : List Entry) : (s.withDataTable v).iterIdx = s.iterIdx := rfl
@[simp] theorem State.withDataTable_cur (s : State) (v : List Entry) : (s.withDataTable v).cur = s.cur := rfl
@[simp] theorem State.withDataTable_cfg (s : State) (v : List Entry) : (s.withDataTable v).cfg = s.cfg := rfl
@[simp] theorem State.withDataTable_pins (s : State) (v : List Entry) : (s.withDataTable v).pins = s.pins := rfl
@[simp] theorem State.withDataTable_resetReq (s : State) (v : List Entry) : (s.withDataTable v).resetReq = s.resetReq := rfl
@[simp] theorem State.withDataTable_await (s : State) (v : List Entry) : (s.withDataTable v).await = s.await := rfl
@[simp] theorem State.withDataTable_late (s : State) (v : List Entry) : (s.withDataTable v).late = s.late := rfl
@[simp] theorem State.withDataTable_cmds (s : State) (v : List Entry) : (s.withDataTable v).cmds = s.cmds := rfl
@[simp] theorem State.withDataTable_rx (s : State) (v : List Entry) : (s.withDataTable v).rx = s.rx := rfl
@[simp] theorem State.withDataTable_pend (s : State) (v : List Entry) : (s.withDataTable v).pend = s.pend := rfl
@[simp] theorem State.withDataTable_cb (s : State) (v : List Entry) : (s.withDataTable v).cb = s.cb := rfl
@[simp] theorem State.withDataTable_rsps (s : State) (v : List Entry) : (s.withDataTable v).rsps = s.rsps := rfl
@[simp] theorem State.withDataTable_trace (s : State) (v : List Entry) : (s.withDataTable v).trace = s.trace := rfl
@[simp] theorem State.withDataTable_rxDue (s : State) (v : List Entry) : (s.withDataTable v).rxDue = s.rxDue := rfl
@[simp] theorem State.withDataTable_pendDue (s : State) (v : List Entry) : (s.withDataTable v).pendDue = s.pendDue := rfl
@[simp] theorem State.withDataTable_cbDue (s : State) (v : List Entry) : (s.withDataTable v).cbDue = s.cbDue := rfl

@[simp] theorem State.withRtrTable_hb (s : State) (v : List Entry) : (s.withRtrTable v).hb = s.hb := rfl
@[simp] theorem State.withRtrTable_dataTable (s : State) (v : List Entry) : (s.withRtrTable v).dataTable = s.dataTable := rfl
@[simp] theorem State.withRtrTable_rtrTable (s : State) (v : List Entry) : (s.withRtrTable v).rtrTable = v := rfl
@[simp] theorem State.withRtrTable_unm (s : State) (v : List Entry) : (s.withRtrTable v).unm = s.unm := rfl
@[simp] theorem State.withRtrTable_tmo (s : State) (v : List Entry) : (s.withRtrTable v).tmo = s.tmo := rfl
@[simp] theorem State.withRtrTable_iter (s : State) (v : List Entry) : (s.withRtrTable v).iter = s.iter := rfl
@[simp] theorem State.withRtrTable_phase (s : State) (v : List Entry) : (s.withRtrTable v).phase = s.phase := rfl
@[simp] theorem State.withRtrTable_iterIdx (s : State) (v : List Entry) : (s.withRtrTable v).iterIdx = s.iterIdx := rfl
@[simp] theorem State.withRtrTable_cur (s : State) (v : List Entry) : (s.withRtrTable v).cur = s.cur := rfl
@[simp] theorem State.withRtrTable_cfg (s : State) (v : List Entry) : (s.withRtrTable v).cfg = s.cfg := rfl
@[simp] theorem State.withRtrTable_pins (s : State) (v : List Entry) : (s.withRtrTable v).pins = s.pins := rfl
@[simp] theorem State.withRtrTable_resetReq (s : State) (v : List Entry) : (s.withRtrTable v).resetReq = s.resetReq := rfl
@[simp] theorem State.withRtrTable_await (s : State) (v : List Entry) : (s.withRtrTable v).await = s.await := rfl
@[simp] theorem State.withRtrTable_late (s : State) (v : List Entry) : (s.withRtrTable v).late = s.late := rfl
@[simp] theorem State.withRtrTable_cmds (s : State) (v : List Entry) : (s.withRtrTable v).cmds = s.cmds := rfl
@[simp] theorem State.withRtrTable_rx (s : State) (v : List Entry) : (s.withRtrTable v).rx = s.rx := rfl
@[simp] theorem State.withRtrTable_pend (s : State) (v : List Entry) : (s.withRtrTable v).pend = s.pend := rfl
@[simp] theorem State.withRtrTable_cb (s : State) (v : List Entry) : (s.withRtrTable v).cb = s.cb := rfl
@[simp] theorem State.withRtrTable_rsps (s : State) (v : List Entry) : (s.withRtrTable v).rsps = s.rsps := rfl
@[simp] theorem State.withRtrTable_trace (s : State) (v : List Entry) : (s.withRtrTable v).trace = s.trace := rfl
@[simp] theorem State.withRtrTable_rxDue (s : State) (v : List Entry) : (s.withRtrTable v).rxDue = s.rxDue := rfl
@[simp] theorem State.withRtrTable_pendDue (s : State) (v : List Entry) : (s.withRtrTable v).pendDue = s.pendDue := rfl
@[simp] theorem State.withRtrTable_cbDue (s : State) (v : List Entry) : (s.withRtrTable v).cbDue = s.cbDue := rfl

@[simp] theorem State.withUnm_hb (s : State) (v : Slot) : (s.withUnm v).hb = s.hb := rfl
@[simp] theorem State.withUnm_dataTable (s : State) (v : Slot) : (s.withUnm v).dataTable = s.dataTable := rfl
@[simp] theorem State.withUnm_rtrTable (s : State) (v : Slot) : (s.withUnm v).rtrTable = s.rtrTable := rfl
@[simp] theorem State.withUnm_unm (s : State) (v : Slot) : (s.withUnm v).unm = v := rfl
@[simp] theorem State.withUnm_tmo (s : State) (v : Slot) : (s.withUnm v).tmo = s.tmo := rfl
@[simp] theorem State.withUnm_iter (s : State) (v : Slot) : (s.withUnm v).iter = s.iter := rfl
@[simp] theorem State.withUnm_phase (s : State) (v : Slot) : (s.withUnm v).phase = s.phase := rfl
@[simp] theorem State.withUnm_iterIdx (s : State) (v : Slot) : (s.withUnm v).iterIdx = s.iterIdx := rfl
@[simp] theorem State.withUnm_cur (s : State) (v : Slot) : (s.withUnm v).cur = s.cur := rfl
@[simp] theorem State.withUnm_cfg (s : State) (v : Slot) : (s.withUnm v).cfg = s.cfg := rfl
@[simp] theorem State.withUnm_pins (s : State) (v : Slot) : (s.withUnm v).pins = s.pins := rfl
@[simp] theorem State.withUnm_resetReq (s : State) (v : Slot) : (s.withUnm v).resetReq = s.resetReq := rfl
@[simp] theorem State.withUnm_await (s : State) (v : Slot) : (s.withUnm v).await = s.await := rfl
@[simp] theorem State.withUnm_late (s : State) (v : Slot) : (s.withUnm v).late = s.late := rfl
@[simp] theorem State.withUnm_cmds (s : State) (v : Slot) : (s.withUnm v).cmds = s.cmds := rfl
@[simp] theorem State.withUnm_rx (s : State) (v : Slot) : (s.withUnm v).rx = s.rx := rfl
@[simp] theorem State.withUnm_pend (s : State) (v : Slot) : (s.withUnm v).pend = s.pend := rfl
@[simp] theorem State.withUnm_cb (s : State) (v : Slot) : (s.withUnm v).cb = s.cb := rfl
@[simp] theorem State.withUnm_rsps (s : State) (v : Slot) : (s.withUnm v).rsps = s.rsps := rfl
@[simp] theorem State.withUnm_trace (s : State) (v : Slot) : (s.withUnm v).trace = s.trace := rfl
@[simp] theorem State.withUnm_rxDue (s : State) (v : Slot) : (s.withUnm v).rxDue = s.rxDue := rfl
@[simp] theorem State.withUnm_pendDue (s : State) (v : Slot) : (s.withUnm v).pendDue = s.pendDue := rfl
@[simp] theorem State.withUnm_cbDue (s : State) (v : Slot) : (s.withUnm v).cbDue = s.cbDue := rfl

@[simp] theorem State.withTmo_hb (s : State) (v : Slot) : (s.withTmo v).hb = s.hb := rfl
@[simp] theorem State.withTmo_dataTable (s : State) (v : Slot) : (s.withTmo v).dataTable = s.dataTable := rfl
@[simp] theorem State.withTmo_rtrTable (s : State) (v : Slot) : (s.withTmo v).rtrTable = s.rtrTable := rfl
@[simp] theorem State.withTmo_unm (s : State) (v : Slot) : (s.withTmo v).unm = s.unm := rfl
@[simp] theorem State.withTmo_tmo (s : State) (v : Slot) : (s.withTmo v).tmo = v := rfl
@[simp] theorem State.withTmo_iter (s : State) (v : Slot) : (s.withTmo v).iter = s.iter := rfl
@[simp] theorem State.withTmo_phase (s : State) (v : Slot) : (s.withTmo v).phase = s.phase := rfl
@[simp] theorem State.withTmo_iterIdx (s : State) (v : Slot) : (s.withTmo v).iterIdx = s.iterIdx := rfl
@[simp] theorem State.withTmo_cur (s : State) (v : Slot) : (s.withTmo v).cur = s.cur := rfl
@[simp] theorem State.withTmo_cfg (s : State) (v : Slot) : (s.withTmo v).cfg = s.cfg := rfl
@[simp] theorem State.withTmo_pins (s : State) (v : Slot) : (s.withTmo v).pins = s.pins := rfl
@[simp] theorem State.withTmo_resetReq (s : State) (v : Slot) : (s.withTmo v).resetReq = s.resetReq := rfl
@[simp] theorem State.withTmo_await (s : State) (v : Slot) : (s.withTmo v).await = s.await := rfl
@[simp] theorem State.withTmo_late (s : State) (v : Slot) : (s.withTmo v).late = s.late := rfl
@[simp] theorem State.withTmo_cmds (s : State) (v : Slot) : (s.withTmo v).cmds = s.cmds := rfl
@[simp] theorem State.withTmo_rx (s : State) (v : Slot) : (s.withTmo v).rx = s.rx := rfl
@[simp] theorem State.withTmo_pend (s : State) (v : Slot) : (s.withTmo v).pend = s.pend := rfl
@[simp] theorem State.withTmo_cb (s : State) (v : Slot) : (s.withTmo v).cb = s.cb := rfl
@[simp] theorem State.withTmo_rsps (s : State) (v : Slot) : (s.withTmo v).rsps = s.rsps := rfl
@[simp] theorem State.withTmo_trace (s : State) (v : Slot) : (s.withTmo v).trace = s.trace := rfl
@[simp] theorem State.withTmo_rxDue (s : State) (v : Slot) : (s.withTmo v).rxDue = s.rxDue := rfl
@[simp] theorem State.withTmo_pendDue (s : State) (v : Slot) : (s.withTmo v).pendDue = s.pendDue := rfl
@[simp] theorem State.withTmo_cbDue (s : State) (v : Slot) : (s.withTmo v).cbDue = s.cbDue := rfl

@[simp] theorem State.withIter_hb (s : State) (v : List U32) : (s.withIter v).hb = s.hb := rfl
@[simp] theorem State.withIter_dataTable (s : State) (v : List U32) : (s.withIter v).dataTable = s.dataTable := rfl
@[simp] theorem State.withIter_rtrTable (s : State) (v : List U32) : (s.withIter v).rtrTable = s.rtrTable := rfl
@[simp] theorem State.withIter_unm (s : State) (v : List U32) : (s.withIter v).unm = s.unm := rfl
@[simp] theorem State.withIter_tmo (s : State) (v : List U32) : (s.withIter v).tmo = s.tmo := rfl
@[simp] theorem State.withIter_iter (s : State) (v : List U32) : (s.withIter v).iter = v := rfl
@[simp] theorem State.withIter_phase (s : State) (v : List U32) : (s.withIter v).phase = s.phase := rfl
@[simp] theorem State.withIter_iterIdx (s : State) (v : List U32) : (s.withIter v).iterIdx = s.iterIdx := rfl
@[simp] theorem State.withIter_cur (s : State) (v : List U32) : (s.withIter v).cur = s.cur := rfl
@[simp] theorem State.withIter_cfg (s : State) (v : List U32) : (s.withIter v).cfg = s.cfg := rfl
@[simp] theorem State.withIter_pins (s : State) (v : List U32) : (s.withIter v).pins = s.pins := rfl
@[simp] theorem State.withIter_resetReq (s : State) (v : List U32) : (s.withIter v).resetReq = s.resetReq := rfl
@[simp] theorem State.withIter_await (s : State) (v : List U32) : (s.withIter v).await = s.await := rfl
@[simp] theorem State.withIter_late (s : State) (v : List U32) : (s.withIter v).late = s.late := rfl
@[simp] theorem State.withIter_cmds (s : State) (v : List U32) : (s.withIter v).cmds = s.cmds := rfl
@[simp] theorem State.withIter_rx (s : State) (v : List U32) : (s.withIter v).rx = s.rx := rfl
@[simp] theorem State.withIter_pend (s : State) (v : List U32) : (s.withIter v).pend = s.pend := rfl
@[simp] theorem State.withIter_cb (s : State) (v : List U32) : (s.withIter v).cb = s.cb := rfl
@[simp] theorem State.withIter_rsps (s : State) (v : List U32) : (s.withIter v).rsps = s.rsps := rfl
@[simp] theorem State.withIter_trace (s : State) (v : List U32) : (s.withIter v).trace = s.trace := rfl
@[simp] theorem State.withIter_rxDue (s : State) (v : List U32) : (s.withIter v).rxDue = s.rxDue := rfl
@[simp] theorem State.withIter_pendDue (s : State) (v : List U32) : (s.withIter v).pendDue = s.pendDue := rfl
@[simp] theorem State.withIter_cbDue (s : State) (v : List U32) : (s.withIter v).cbDue = s.cbDue := rfl

@[simp] theorem State.withPhase_hb (s : State) (v : Phase) : (s.withPhase v).hb = s.hb := rfl
@[simp] theorem State.withPhase_dataTable (s : State) (v : Phase) : (s.withPhase v).dataTable = s.dataTable := rfl
@[simp] theorem State.withPhase_rtrTable (s : State) (v : Phase) : (s.withPhase v).rtrTable = s.rtrTable := rfl
@[simp] theorem State.withPhase_unm (s : State) (v : Phase) : (s.withPhase v).unm = s.unm := rfl
@[simp] theorem State.withPhase_tmo (s : State) (v : Phase) : (s.withPhase v).tmo = s.tmo := rfl
@[simp] theorem State.withPhase_iter (s : State) (v : Phase) : (s.withPhase v).iter = s.iter := rfl
@[simp] theorem State.withPhase_phase (s : State) (v : Phase) : (s.withPhase v).phase = v := rfl
@[simp] theorem State.withPhase_iterIdx (s : State) (v : Phase) : (s.withPhase v).iterIdx = s.iterIdx := rfl
@[simp] theorem State.withPhase_cur (s : State) (v : Phase) : (s.withPhase v).cur = s.cur := rfl
@[simp] theorem State.withPhase_cfg (s : State) (v : Phase) : (s.withPhase v).cfg = s.cfg := rfl
@[simp] theorem State.withPhase_pins (s : State) (v : Phase) : (s.withPhase v).pins = s.pins := rfl
@[simp] theorem State.withPhase_resetReq (s : State) (v : Phase) : (s.withPhase v).resetReq = s.resetReq := rfl
@[simp] theorem State.withPhase_await (s : State) (v : Phase) : (s.withPhase v).await = s.await := rfl
@[simp] theorem State.withPhase_late (s : State) (v : Phase) : (s.withPhase v).late = s.late := rfl
@[simp] theorem State.withPhase_cmds (s : State) (v : Phase) : (s.withPhase v).cmds = s.cmds := rfl
@[simp] theorem State.withPhase_rx (s : State) (v : Phase) : (s.withPhase v).rx = s.rx := rfl
@[simp] theorem State.withPhase_pend (s : State) (v : Phase) : (s.withPhase v).pend = s.pend := rfl
@[simp] theorem State.withPhase_cb (s : State) (v : Phase) : (s.withPhase v).cb = s.cb := rfl
@[simp] theorem State.withPhase_rsps (s : State) (v : Phase) : (s.withPhase v).rsps = s.rsps := rfl
@[simp] theorem State.withPhase_trace (s : State) (v : Phase) : (s.withPhase v).trace = s.trace := rfl
@[simp] theorem State.withPhase_rxDue (s : State) (v : Phase) : (s.withPhase v).rxDue = s.rxDue := rfl
@[simp] theorem State.withPhase_pendDue (s : State) (v : Phase) : (s.withPhase v).pendDue = s.pendDue := rfl
@[simp] theorem State.withPhase_cbDue (s : State) (v : Phase) : (s.withPhase v).cbDue = s.cbDue := rfl

@[simp] theorem State.withIterIdx_hb (s : State) (v : Nat) : (s.withIterIdx v).hb = s.hb := rfl
@[simp] theorem State.withIterIdx_dataTable (s : State) (v : Nat) : (s.withIterIdx v).dataTable = s.dataTable := rfl
@[simp] theorem State.withIterIdx_rtrTable (s : State) (v : Nat) : (s.withIterIdx v).rtrTable = s.rtrTable := rfl
@[simp] theorem State.withIterIdx_unm (s : State) (v : Nat) : (s.withIterIdx v).unm = s.unm := rfl
@[simp] theorem State.withIterIdx_tmo (s : State) (v : Nat) : (s.withIterIdx v).tmo = s.tmo := rfl
@[simp] theorem State.withIterIdx_iter (s : State) (v : Nat) : (s.withIterIdx v).iter = s.iter := rfl
@[simp] theorem State.withIterIdx_phase (s : State) (v : Nat) : (s.withIterIdx v).phase = s.phase := rfl
@[simp] theorem State.withIterIdx_iterIdx (s : State) (v : Nat) : (s.withIterIdx v).iterIdx = v := rfl
@[simp] theorem State.withIterIdx_cur (s : State) (v : Nat) : (s.withIterIdx v).cur = s.cur := rfl
@[simp] theorem State.withIterIdx_cfg (s : State) (v : Nat) : (s.withIterIdx v).cfg = s.cfg := rfl
@[simp] theorem State.withIterIdx_pins (s : State) (v : Nat) : (s.withIterIdx v).pins = s.pins := rfl
@[simp] theorem State.withIterIdx_resetReq (s : State) (v : Nat) : (s.withIterIdx v).resetReq = s.resetReq := rfl
@[simp] theorem State.withIterIdx_await (s : State) (v : Nat) : (s.withIterIdx v).await = s.await := rfl
@[simp] theorem State.withIterIdx_late (s : State) (v : Nat) : (s.withIterIdx v).late = s.late := rfl
@[simp] theorem State.withIterIdx_cmds (s : State) (v : Nat) : (s.withIterIdx v).cmds = s.cmds := rfl
@[simp] theorem State.withIterIdx_rx (s : State) (v : Nat) : (s.withIterIdx v).rx = s.rx := rfl
@[simp] theorem State.withIterIdx_pend (s : State) (v : Nat) : (s.withIterIdx v).pend = s.pend := rfl
@[simp] theorem State.withIterIdx_cb (s : State) (v : Nat) : (s.withIterIdx v).cb = s.cb := rfl
@[simp] theorem State.withIterIdx_rsps (s : State) (v : Nat) : (s.withIterIdx v).rsps = s.rsps := rfl
@[simp] theorem State.withIterIdx_trace (s : State) (v : Nat) : (s.withIterIdx v).trace = s.trace := rfl
@[simp] theorem State.withIterIdx_rxDue (s : State) (v : Nat) : (s.withIterIdx v).rxDue = s.rxDue := rfl
@[simp] theorem State.withIterIdx_pendDue (s : State) (v : Nat) : (s.withIterIdx v).pendDue = s.pendDue := rfl
@[simp] theorem State.withIterIdx_cbDue (s : State) (v : Nat) : (s.withIterIdx v).cbDue = s.cbDue := rfl

@[simp] theorem State.withCur_hb (s : State) (v : CanFrame) : (s.withCur v).hb = s.hb := rfl
@[simp] theorem State.withCur_dataTable (s : State) (v : CanFrame) : (s.withCur v).dataTable = s.dataTable := rfl
@[simp] theorem State.withCur_rtrTable (s : State) (v : CanFrame) : (s.withCur v).rtrTable = s.rtrTable := rfl
@[simp] theorem State.withCur_unm (s : State) (v : CanFrame) : (s.withCur v).unm = s.unm := rfl
@[simp] theorem State.withCur_tmo (s : State) (v : CanFrame) : (s.withCur v).tmo = s.tmo := rfl
@[simp] theorem State.withCur_iter (s : State) (v : CanFrame) : (s.withCur v).iter = s.iter := rfl
@[simp] theorem State.withCur_phase (s : State) (v : CanFrame) : (s.withCur v).phase = s.phase := rfl
@[simp] theorem State.withCur_iterIdx (s : State) (v : CanFrame) : (s.withCur v).iterIdx = s.iterIdx := rfl
@[simp] theorem State.withCur_cur (s : State) (v : CanFrame) : (s.withCur v).cur = v := rfl
@[simp] theorem State.withCur_cfg (s : State) (v : CanFrame) : (s.withCur v).cfg = s.cfg := rfl
@[simp] theorem State.withCur_pins (s : State) (v : CanFrame) : (s.withCur v).pins = s.pins := rfl
@[simp] theorem State.withCur_resetReq (s : State) (v : CanFrame) : (s.withCur v).resetReq = s.resetReq := rfl
@[simp] theorem State.withCur_await (s : State) (v : CanFrame) : (s.withCur v).await = s.await := rfl
@[simp] theorem State.withCur_late (s : State) (v : CanFrame) : (s.withCur v).late = s.late := rfl
@[simp] theorem State.withCur_cmds (s : State) (v : CanFrame) : (s.withCur v).cmds = s.cmds := rfl
@[simp] theorem State.withCur_rx (s : State) (v : CanFrame) : (s.withCur v).rx = s.rx := rfl
@[simp] theorem State.withCur_pend (s : State) (v : CanFrame) : (s.withCur v).pend = s.pend := rfl
@[simp] theorem State.withCur_cb (s : State) (v : CanFrame) : (s.withCur v).cb = s.cb := rfl
@[simp] theorem State.withCur_rsps (s : State) (v : CanFrame) : (s.withCur v).rsps = s.rsps := rfl
@[simp] theorem State.withCur_trace (s : State) (v : CanFrame) : (s.withCur v).trace = s.trace := rfl
@[simp] theorem State.withCur_rxDue (s : State) (v : CanFrame) : (s.withCur v).rxDue = s.rxDue := rfl
@[simp] theorem State.withCur_pendDue (s : State) (v : CanFrame) : (s.withCur v).pendDue = s.pendDue := rfl
@[simp] theorem State.withCur_cbDue (s : State) (v : CanFrame) : (s.withCur v).cbDue = s.cbDue := rfl

@[simp] theorem State.withAwait_hb (s : State) (v : Await) : (s.withAwait v).hb = s.hb := rfl
@[simp] theorem State.withAwait_dataTable (s : State) (v : Await) : (s.withAwait v).dataTable = s.dataTable := rfl
@[simp] theorem State.withAwait_rtrTable (s : State) (v : Await) : (s.withAwait v).rtrTable = s.rtrTable := rfl
@[simp] theorem State.withAwait_unm (s : State) (v : Await) : (s.withAwait v).unm = s.unm := rfl
@[simp] theorem State.withAwait_tmo (s : State) (v : Await) : (s.withAwait v).tmo = s.tmo := rfl
@[simp] theorem State.withAwait_iter (s : State) (v : Await) : (s.withAwait v).iter = s.iter := rfl
@[simp] theorem State.withAwait_phase (s : State) (v : Await) : (s.withAwait v).phase = s.phase := rfl
@[simp] theorem State.withAwait_iterIdx (s : State) (v : Await) : (s.withAwait v).iterIdx = s.iterIdx := rfl
@[simp] theorem State.withAwait_cur (s : State) (v : Await) : (s.withAwait v).cur = s.cur := rfl
@[simp] theorem State.withAwait_cfg (s : State) (v : Await) : (s.withAwait v).cfg = s.cfg := rfl
@[simp] theorem State.withAwait_pins (s : State) (v : Await) : (s.withAwait v).pins = s.pins := rfl
@[simp] theorem State.withAwait_resetReq (s : State) (v : Await) : (s.withAwait v).resetReq = s.resetReq := rfl
@[simp] theorem State.withAwait_await (s : State) (v : Await) : (s.withAwait v).await = v := rfl
@[simp] theorem State.withAwait_late (s : State) (v : Await) : (s.withAwait v).late = s.late := rfl
@[simp] theorem State.withAwait_cmds (s : State) (v : Await) : (s.withAwait v).cmds = s.cmds := rfl
@[simp] theorem State.withAwait_rx (s : State) (v : Await) : (s.withAwait v).rx = s.rx := rfl
@[simp] theorem State.withAwait_pend (s : State) (v : Await) : (s.withAwait v).pend = s.pend := rfl
@[simp] theorem State.withAwait_cb (s : State) (v : Await) : (s.withAwait v).cb = s.cb := rfl
@[simp] theorem State.withAwait_rsps (s : State) (v : Await) : (s.withAwait v).rsps = s.rsps := rfl
@[simp] theorem State.withAwait_trace (s : State) (v : Await) : (s.withAwait v).trace = s.trace := rfl
@[simp] theorem State.withAwait_rxDue (s : State) (v : Await) : (s.withAwait v).rxDue = s.rxDue := rfl
@[simp] theorem State.withAwait_pendDue (s : State) (v : Await) : (s.withAwait v).pendDue = s.pendDue := rfl
@[simp] theorem State.withAwait_cbDue (s : State) (v : Await) : (s.withAwait v).cbDue = s.cbDue := rfl

@[simp] theorem State.withLate_hb (s : State) (v : Late) : (s.withLate v).hb = s.hb := rfl
@[simp] theorem State.withLate_dataTable (s : State) (v : Late) : (s.withLate v).dataTable = s.dataTable := rfl
@[simp] theorem State.withLate_rtrTable (s : State) (v : Late) : (s.withLate v).rtrTable = s.rtrTable := rfl
@[simp] theorem State.withLate_unm (s : State) (v : Late) : (s.withLate v).unm = s.unm := rfl
@[simp] theorem State.withLate_tmo (s : State) (v : Late) : (s.withLate v).tmo = s.tmo := rfl
@[simp] theorem State.withLate_iter (s : State) (v : Late) : (s.withLate v).iter = s.iter := rfl
@[simp] theorem State.withLate_phase (s : State) (v : Late) : (s.withLate v).phase = s.phase := rfl
@[simp] theorem State.withLate_iterIdx (s : State) (v : Late) : (s.withLate v).iterIdx = s.iterIdx := rfl
@[simp] theorem State.withLate_cur (s : State) (v : Late) : (s.withLate v).cur = s.cur := rfl
@[simp] theorem State.withLate_cfg (s : State) (v : Late) : (s.withLate v).cfg = s.cfg := rfl
@[simp] theorem State.withLate_pins (s : State) (v : Late) : (s.withLate v).pins = s.pins := rfl
@[simp] theorem State.withLate_resetReq (s : State) (v : Late) : (s.withLate v).resetReq = s.resetReq := rfl
@[simp] theorem State.withLate_await (s : State) (v : Late) : (s.withLate v).await = s.await := rfl
@[simp] theorem State.withLate_late (s : State) (v : Late) : (s.withLate v).late = v := rfl
@[simp] theorem State.withLate_cmds (s : State) (v : Late) : (s.withLate v).cmds = s.cmds := rfl
@[simp] theorem State.withLate_rx (s : State) (v : Late) : (s.withLate v).rx = s.rx := rfl
@[simp] theorem State.withLate_pend (s : State) (v : Late) : (s.withLate v).pend = s.pend := rfl
@[simp] theorem State.withLate_cb (s : State) (v : Late) : (s.withLate v).cb = s.cb := rfl
@[simp] theorem State.withLate_rsps (s : State) (v : Late) : (s.withLate v).rsps = s.rsps := rfl
@[simp] theorem State.withLate_trace (s : State) (v : Late) : (s.withLate v).trace = s.trace := rfl

@[simp] theorem State.withCmds_hb (s : State) (v : List PortWord) : (s.withCmds v).hb = s.hb := rfl
@[simp] theorem State.withCmds_dataTable (s : State) (v : List PortWord) : (s.withCmds v).dataTable = s.dataTable := rfl
@[simp] theorem State.withCmds_rtrTable (s : State) (v : List PortWord) : (s.withCmds v).rtrTable = s.rtrTable := rfl
@[simp] theorem State.withCmds_unm (s : State) (v : List PortWord) : (s.withCmds v).unm = s.unm := rfl
@[simp] theorem State.withCmds_tmo (s : State) (v : List PortWord) : (s.withCmds v).tmo = s.tmo := rfl
@[simp] theorem State.withCmds_iter (s : State) (v : List PortWord) : (s.withCmds v).iter = s.iter := rfl
@[simp] theorem State.withCmds_phase (s : State) (v : List PortWord) : (s.withCmds v).phase = s.phase := rfl
@[simp] theorem State.withCmds_iterIdx (s : State) (v : List PortWord) : (s.withCmds v).iterIdx = s.iterIdx := rfl
@[simp] theorem State.withCmds_cur (s : State) (v : List PortWord) : (s.withCmds v).cur = s.cur := rfl
@[simp] theorem State.withCmds_cfg (s : State) (v : List PortWord) : (s.withCmds v).cfg = s.cfg := rfl
@[simp] theorem State.withCmds_pins (s : State) (v : List PortWord) : (s.withCmds v).pins = s.pins := rfl
@[simp] theorem State.withCmds_resetReq (s : State) (v : List PortWord) : (s.withCmds v).resetReq = s.resetReq := rfl
@[simp] theorem State.withCmds_await (s : State) (v : List PortWord) : (s.withCmds v).await = s.await := rfl
@[simp] theorem State.withCmds_late (s : State) (v : List PortWord) : (s.withCmds v).late = s.late := rfl
@[simp] theorem State.withCmds_cmds (s : State) (v : List PortWord) : (s.withCmds v).cmds = v := rfl
@[simp] theorem State.withCmds_rx (s : State) (v : List PortWord) : (s.withCmds v).rx = s.rx := rfl
@[simp] theorem State.withCmds_pend (s : State) (v : List PortWord) : (s.withCmds v).pend = s.pend := rfl
@[simp] theorem State.withCmds_cb (s : State) (v : List PortWord) : (s.withCmds v).cb = s.cb := rfl
@[simp] theorem State.withCmds_rsps (s : State) (v : List PortWord) : (s.withCmds v).rsps = s.rsps := rfl
@[simp] theorem State.withCmds_trace (s : State) (v : List PortWord) : (s.withCmds v).trace = s.trace := rfl
@[simp] theorem State.withCmds_rxDue (s : State) (v : List PortWord) : (s.withCmds v).rxDue = s.rxDue := rfl
@[simp] theorem State.withCmds_pendDue (s : State) (v : List PortWord) : (s.withCmds v).pendDue = s.pendDue := rfl
@[simp] theorem State.withCmds_cbDue (s : State) (v : List PortWord) : (s.withCmds v).cbDue = s.cbDue := rfl

@[simp] theorem State.withRx_hb (s : State) (v : List RecvResponse) : (s.withRx v).hb = s.hb := rfl
@[simp] theorem State.withRx_dataTable (s : State) (v : List RecvResponse) : (s.withRx v).dataTable = s.dataTable := rfl
@[simp] theorem State.withRx_rtrTable (s : State) (v : List RecvResponse) : (s.withRx v).rtrTable = s.rtrTable := rfl
@[simp] theorem State.withRx_unm (s : State) (v : List RecvResponse) : (s.withRx v).unm = s.unm := rfl
@[simp] theorem State.withRx_tmo (s : State) (v : List RecvResponse) : (s.withRx v).tmo = s.tmo := rfl
@[simp] theorem State.withRx_iter (s : State) (v : List RecvResponse) : (s.withRx v).iter = s.iter := rfl
@[simp] theorem State.withRx_phase (s : State) (v : List RecvResponse) : (s.withRx v).phase = s.phase := rfl
@[simp] theorem State.withRx_iterIdx (s : State) (v : List RecvResponse) : (s.withRx v).iterIdx = s.iterIdx := rfl
@[simp] theorem State.withRx_cur (s : State) (v : List RecvResponse) : (s.withRx v).cur = s.cur := rfl
@[simp] theorem State.withRx_cfg (s : State) (v : List RecvResponse) : (s.withRx v).cfg = s.cfg := rfl
@[simp] theorem State.withRx_pins (s : State) (v : List RecvResponse) : (s.withRx v).pins = s.pins := rfl
@[simp] theorem State.withRx_resetReq (s : State) (v : List RecvResponse) : (s.withRx v).resetReq = s.resetReq := rfl
@[simp] theorem State.withRx_await (s : State) (v : List RecvResponse) : (s.withRx v).await = s.await := rfl
@[simp] theorem State.withRx_late (s : State) (v : List RecvResponse) : (s.withRx v).late = s.late := rfl
@[simp] theorem State.withRx_cmds (s : State) (v : List RecvResponse) : (s.withRx v).cmds = s.cmds := rfl
@[simp] theorem State.withRx_rx (s : State) (v : List RecvResponse) : (s.withRx v).rx = v := rfl
@[simp] theorem State.withRx_pend (s : State) (v : List RecvResponse) : (s.withRx v).pend = s.pend := rfl
@[simp] theorem State.withRx_cb (s : State) (v : List RecvResponse) : (s.withRx v).cb = s.cb := rfl
@[simp] theorem State.withRx_rsps (s : State) (v : List RecvResponse) : (s.withRx v).rsps = s.rsps := rfl
@[simp] theorem State.withRx_trace (s : State) (v : List RecvResponse) : (s.withRx v).trace = s.trace := rfl
@[simp] theorem State.withRx_pendDue (s : State) (v : List RecvResponse) : (s.withRx v).pendDue = s.pendDue := rfl
@[simp] theorem State.withRx_cbDue (s : State) (v : List RecvResponse) : (s.withRx v).cbDue = s.cbDue := rfl

@[simp] theorem State.withPend_hb (s : State) (v : List Bool) : (s.withPend v).hb = s.hb := rfl
@[simp] theorem State.withPend_dataTable (s : State) (v : List Bool) : (s.withPend v).dataTable = s.dataTable := rfl
@[simp] theorem State.withPend_rtrTable (s : State) (v : List Bool) : (s.withPend v).rtrTable = s.rtrTable := rfl
@[simp] theorem State.withPend_unm (s : State) (v : List Bool) : (s.withPend v).unm = s.unm := rfl
@[simp] theorem State.withPend_tmo (s : State) (v : List Bool) : (s.withPend v).tmo = s.tmo := rfl
@[simp] theorem State.withPend_iter (s : State) (v : List Bool) : (s.withPend v).iter = s.iter := rfl
@[simp] theorem State.withPend_phase (s : State) (v : List Bool) : (s.withPend v).phase = s.phase := rfl
@[simp] theorem State.withPend_iterIdx (s : State) (v : List Bool) : (s.withPend v).iterIdx = s.iterIdx := rfl
@[simp] theorem State.withPend_cur (s : State) (v : List Bool) : (s.withPend v).cur = s.cur := rfl
@[simp] theorem State.withPend_cfg (s : State) (v : List Bool) : (s.withPend v).cfg = s.cfg := rfl
@[simp] theorem State.withPend_pins (s : State) (v : List Bool) : (s.withPend v).pins = s.pins := rfl
@[simp] theorem State.withPend_resetReq (s : State) (v : List Bool) : (s.withPend v).resetReq = s.resetReq := rfl
@[simp] theorem State.withPend_await (s : State) (v : List Bool) : (s.withPend v).await = s.await := rfl
@[simp] theorem State.withPend_late (s : State) (v : List Bool) : (s.withPend v).late = s.late := rfl
@[simp] theorem State.withPend_cmds (s : State) (v : List Bool) : (s.withPend v).cmds = s.cmds := rfl
@[simp] theorem State.withPend_rx (s : State) (v : List Bool) : (s.withPend v).rx = s.rx := rfl
@[simp] theorem State.withPend_pend (s : State) (v : List Bool) : (s.withPend v).pend = v := rfl
@[simp] theorem State.withPend_cb (s : State) (v : List Bool) : (s.withPend v).cb = s.cb := rfl
@[simp] theorem State.withPend_rsps (s : State) (v : List Bool) : (s.withPend v).rsps = s.rsps := rfl
@[simp] theorem State.withPend_trace (s : State) (v : List Bool) : (s.withPend v).trace = s.trace := rfl
@[simp] theorem State.withPend_rxDue (s : State) (v : List Bool) : (s.withPend v).rxDue = s.rxDue := rfl
@[simp] theorem State.withPend_cbDue (s : State) (v : List Bool) : (s.withPend v).cbDue = s.cbDue := rfl

@[simp] theorem State.withCb_hb (s : State) (v : List CbEvent) : (s.withCb v).hb = s.hb := rfl
@[simp] theorem State.withCb_dataTable (s : State) (v : List CbEvent) : (s.withCb v).dataTable = s.dataTable := rfl
@[simp] theorem State.withCb_rtrTable (s : State) (v : List CbEvent) : (s.withCb v).rtrTable = s.rtrTable := rfl
@[simp] theorem State.withCb_unm (s : State) (v : List CbEvent) : (s.withCb v).unm = s.unm := rfl
@[simp] theorem State.withCb_tmo (s : State) (v : List CbEvent) : (s.withCb v).tmo = s.tmo := rfl
@[simp] theorem State.withCb_iter (s : State) (v : List CbEvent) : (s.withCb v).iter = s.iter := rfl
@[simp] theorem State.withCb_phase (s : State) (v : List CbEvent) : (s.withCb v).phase = s.phase := rfl
@[simp] theorem State.withCb_iterIdx (s : State) (v : List CbEvent) : (s.withCb v).iterIdx = s.iterIdx := rfl
@[simp] theorem State.withCb_cur (s : State) (v : List CbEvent) : (s.withCb v).cur = s.cur := rfl
@[simp] theorem State.withCb_cfg (s : State) (v : List CbEvent) : (s.withCb v).cfg = s.cfg := rfl
@[simp] theorem State.withCb_pins (s : State) (v : List CbEvent) : (s.withCb v).pins = s.pins := rfl
@[simp] theorem State.withCb_resetReq (s : State) (v : List CbEvent) : (s.withCb v).resetReq = s.resetReq := rfl
@[simp] theorem State.withCb_await (s : State) (v : List CbEvent) : (s.withCb v).await = s.await := rfl
@[simp] theorem State.withCb_late (s : State) (v : List CbEvent) : (s.withCb v).late = s.late := rfl
@[simp] theorem State.withCb_cmds (s : State) (v : List CbEvent) : (s.withCb v).cmds = s.cmds := rfl
@[simp] theorem State.withCb_rx (s : State) (v : List CbEvent) : (s.withCb v).rx = s.rx := rfl
@[simp] theorem State.withCb_pend (s : State) (v : List CbEvent) : (s.withCb v).pend = s.pend := rfl
@[simp] theorem State.withCb_cb (s : State) (v : List CbEvent) : (s.withCb v).cb = v := rfl
@[simp] theorem State.withCb_rsps (s : State) (v : List CbEvent) : (s.withCb v).rsps = s.rsps := rfl
@[simp] theorem State.withCb_trace (s : State) (v : List CbEvent) : (s.withCb v).trace = s.trace := rfl
@[simp] theorem State.withCb_rxDue (s : State) (v : List CbEvent) : (s.withCb v).rxDue = s.rxDue := rfl
@[simp] theorem State.withCb_pendDue (s : State) (v : List CbEvent) : (s.withCb v).pendDue = s.pendDue := rfl

@[simp] theorem State.respond_hb (s : State) (r : Rsp) : (s.respond r).hb = s.hb := rfl
@[simp] theorem State.respond_dataTable (s : State) (r : Rsp) : (s.respond r).dataTable = s.dataTable := rfl
@[simp] theorem State.respond_rtrTable (s : State) (r : Rsp) : (s.respond r).rtrTable = s.rtrTable := rfl
@[simp] theorem State.respond_unm (s : State) (r : Rsp) : (s.respond r).unm = s.unm := rfl
@[simp] theorem State.respond_tmo (s : State) (r : Rsp) : (s.respond r).tmo = s.tmo := rfl
@[simp] theorem State.respond_iter (s : State) (r : Rsp) : (s.respond r).iter = s.iter := rfl
@[simp] theorem State.respond_phase (s : State) (r : Rsp) : (s.respond r).phase = s.phase := rfl
@[simp] theorem State.respond_iterIdx (s : State) (r : Rsp) : (s.respond r).iterIdx = s.iterIdx := rfl
@[simp] theorem State.respond_cur (s : State) (r : Rsp) : (s.respond r).cur = s.cur := rfl
@[simp] theorem State.respond_cfg (s : State) (r : Rsp) : (s.respond r).cfg = s.cfg := rfl
@[simp] theorem State.respond_pins (s : State) (r : Rsp) : (s.respond r).pins = s.pins := rfl
@[simp] theorem State.respond_resetReq (s : State) (r : Rsp) : (s.respond r).resetReq = s.resetReq := rfl
@[simp] theorem State.respond_await (s : State) (r : Rsp) : (s.respond r).await = s.await := rfl
@[simp] theorem State.respond_late (s : State) (r : Rsp) : (s.respond r).late = s.late := rfl
@[simp] theorem State.respond_cmds (s : State) (r : Rsp) : (s.respond r).cmds = s.cmds := rfl
@[simp] theorem State.respond_rx (s : State) (r : Rsp) : (s.respond r).rx = s.rx := rfl
@[simp] theorem State.respond_pend (s : State) (r : Rsp) : (s.respond r).pend = s.pend := rfl
@[simp] theorem State.respond_cb (s : State) (r : Rsp) : (s.respond r).cb = s.cb := rfl
@[simp] theorem State.respond_rsps (s : State) (r : Rsp) : (s.respond r).rsps = s.rsps ++ [r] := rfl
@[simp] theorem State.respond_trace (s : State) (r : Rsp) : (s.respond r).trace = s.trace := rfl
@[simp] theorem State.respond_rxDue (s : State) (r : Rsp) : (s.respond r).rxDue = s.rxDue := rfl
@[simp] theorem State.respond_pendDue (s : State) (r : Rsp) : (s.respond r).pendDue = s.pendDue := rfl
@[simp] theorem State.respond_cbDue (s : State) (r : Rsp) : (s.respond r).cbDue = s.cbDue := rfl

@[simp] theorem State.log_hb (s : State) (e : Event) : (s.log e).hb = s.hb := rfl
@[simp] theorem State.log_dataTable (s : State) (e : Event) : (s.log e).dataTable = s.dataTable := rfl
@[simp] theorem State.log_rtrTable (s : State) (e : Event) : (s.log e).rtrTable = s.rtrTable := rfl
@[simp] theorem State.log_unm (s : State) (e : Event) : (s.log e).unm = s.unm := rfl
@[simp] theorem State.log_tmo (s : State) (e : Event) : (s.log e).tmo = s.tmo := rfl
@[simp] theorem State.log_iter (s : State) (e : Event) : (s.log e).iter = s.iter := rfl
@[simp] theorem State.log_phase (s : State) (e : Event) : (s.log e).phase = s.phase := rfl
@[simp] theorem State.log_iterIdx (s : State) (e : Event) : (s.log e).iterIdx = s.iterIdx := rfl
@[simp] theorem State.log_cur (s : State) (e : Event) : (s.log e).cur = s.cur := rfl
@[simp] theorem State.log_cfg (s : State) (e : Event) : (s.log e).cfg = s.cfg := rfl
@[simp] theorem State.log_pins (s : State) (e : Event) : (s.log e).pins = s.pins := rfl
@[simp] theorem State.log_resetReq (s : State) (e : Event) : (s.log e).resetReq = s.resetReq := rfl
@[simp] theorem State.log_await (s : State) (e : Event) : (s.log e).await = s.await := rfl
@[simp] theorem State.log_late (s : State) (e : Event) : (s.log e).late = s.late := rfl
@[simp] theorem State.log_cmds (s : State) (e : Event) : (s.log e).cmds = s.cmds := rfl
@[simp] theorem State.log_rx (s : State) (e : Event) : (s.log e).rx = s.rx := rfl
@[simp] theorem State.log_pend (s : State) (e : Event) : (s.log e).pend = s.pend := rfl
@[simp] theorem State.log_cb (s : State) (e : Event) : (s.log e).cb = s.cb := rfl
@[simp] theorem State.log_rsps (s : State) (e : Event) : (s.log e).rsps = s.rsps := rfl
@[simp] theorem State.log_trace (s : State) (e : Event) : (s.log e).trace = s.trace ++ [e] := rfl
@[simp] theorem State.log_rxDue (s : State) (e : Event) : (s.log e).rxDue = s.rxDue := rfl
@[simp] theorem State.log_pendDue (s : State) (e : Event) : (s.log e).pendDue = s.pendDue := rfl
@[simp] theorem State.log_cbDue (s : State) (e : Event) : (s.log e).cbDue = s.cbDue := rfl

@[simp] theorem State.takeRx_hb (s : State) (v : List RecvResponse) : (s.takeRx v).hb = s.hb := rfl
@[simp] theorem State.takeRx_dataTable (s : State) (v : List RecvResponse) : (s.takeRx v).dataTable = s.dataTable := rfl
@[simp] theorem State.takeRx_rtrTable (s : State) (v : List RecvResponse) : (s.takeRx v).rtrTable = s.rtrTable := rfl
@[simp] theorem State.takeRx_unm (s : State) (v : List RecvResponse) : (s.takeRx v).unm = s.unm := rfl
@[simp] theorem State.takeRx_tmo (s : State) (v : List RecvResponse) : (s.takeRx v).tmo = s.tmo := rfl
@[simp] theorem State.takeRx_iter (s : State) (v : List RecvResponse) : (s.takeRx v).iter = s.iter := rfl
@[simp] theorem State.takeRx_phase (s : State) (v : List RecvResponse) : (s.takeRx v).phase = s.phase := rfl
@[simp] theorem State.takeRx_iterIdx (s : State) (v : List RecvResponse) : (s.takeRx v).iterIdx = s.iterIdx := rfl
@[simp] theorem State.takeRx_cur (s : State) (v : List RecvResponse) : (s.takeRx v).cur = s.cur := rfl
@[simp] theorem State.takeRx_cfg (s : State) (v : List RecvResponse) : (s.takeRx v).cfg = s.cfg := rfl
@[simp] theorem State.takeRx_pins (s : State) (v : List RecvResponse) : (s.takeRx v).pins = s.pins := rfl
@[simp] theorem State.takeRx_resetReq (s : State) (v : List RecvResponse) : (s.takeRx v).resetReq = s.resetReq := rfl
@[simp] theorem State.takeRx_await (s : State) (v : List RecvResponse) : (s.takeRx v).await = s.await := rfl
@[simp] theorem State.takeRx_late (s : State) (v : List RecvResponse) : (s.takeRx v).late = { s.late with receive := 0 } := rfl
@[simp] theorem State.takeRx_cmds (s : State) (v : List RecvResponse) : (s.takeRx v).cmds = s.cmds := rfl
@[simp] theorem State.takeRx_rx (s : State) (v : List RecvResponse) : (s.takeRx v).rx = v := rfl
@[simp] theorem State.takeRx_pend (s : State) (v : List RecvResponse) : (s.takeRx v).pend = s.pend := rfl
@[simp] theorem State.takeRx_cb (s : State) (v : List RecvResponse) : (s.takeRx v).cb = s.cb := rfl
@[simp] theorem State.takeRx_rsps (s : State) (v : List RecvResponse) : (s.takeRx v).rsps = s.rsps := rfl
@[simp] theorem State.takeRx_trace (s : State) (v : List RecvResponse) : (s.takeRx v).trace = s.trace := rfl
@[simp] theorem State.takeRx_rxDue (s : State) (v : List RecvResponse) : (s.takeRx v).rxDue = v := rfl
@[simp] theorem State.takeRx_pendDue (s : State) (v : List RecvResponse) : (s.takeRx v).pendDue = s.pendDue := rfl
@[simp] theorem State.takeRx_cbDue (s : State) (v : List RecvResponse) : (s.takeRx v).cbDue = s.cbDue := rfl

@[simp] theorem State.takePend_hb (s : State) (v : List Bool) : (s.takePend v).hb = s.hb := rfl
@[simp] theorem State.takePend_dataTable (s : State) (v : List Bool) : (s.takePend v).dataTable = s.dataTable := rfl
@[simp] theorem State.takePend_rtrTable (s : State) (v : List Bool) : (s.takePend v).rtrTable = s.rtrTable := rfl
@[simp] theorem State.takePend_unm (s : State) (v : List Bool) : (s.takePend v).unm = s.unm := rfl
@[simp] theorem State.takePend_tmo (s : State) (v : List Bool) : (s.takePend v).tmo = s.tmo := rfl
@[simp] theorem State.takePend_iter (s : State) (v : List Bool) : (s.takePend v).iter = s.iter := rfl
@[simp] theorem State.takePend_phase (s : State) (v : List Bool) : (s.takePend v).phase = s.phase := rfl
@[simp] theorem State.takePend_iterIdx (s : State) (v : List Bool) : (s.takePend v).iterIdx = s.iterIdx := rfl
@[simp] theorem State.takePend_cur (s : State) (v : List Bool) : (s.takePend v).cur = s.cur := rfl
@[simp] theorem State.takePend_cfg (s : State) (v : List Bool) : (s.takePend v).cfg = s.cfg := rfl
@[simp] theorem State.takePend_pins (s : State) (v : List Bool) : (s.takePend v).pins = s.pins := rfl
@[simp] theorem State.takePend_resetReq (s : State) (v : List Bool) : (s.takePend v).resetReq = s.resetReq := rfl
@[simp] theorem State.takePend_await (s : State) (v : List Bool) : (s.takePend v).await = s.await := rfl
@[simp] theorem State.takePend_late (s : State) (v : List Bool) : (s.takePend v).late = { s.late with hasPending := 0 } := rfl
@[simp] theorem State.takePend_cmds (s : State) (v : List Bool) : (s.takePend v).cmds = s.cmds := rfl
@[simp] theorem State.takePend_rx (s : State) (v : List Bool) : (s.takePend v).rx = s.rx := rfl
@[simp] theorem State.takePend_pend (s : State) (v : List Bool) : (s.takePend v).pend = v := rfl
@[simp] theorem State.takePend_cb (s : State) (v : List Bool) : (s.takePend v).cb = s.cb := rfl
@[simp] theorem State.takePend_rsps (s : State) (v : List Bool) : (s.takePend v).rsps = s.rsps := rfl
@[simp] theorem State.takePend_trace (s : State) (v : List Bool) : (s.takePend v).trace = s.trace := rfl
@[simp] theorem State.takePend_rxDue (s : State) (v : List Bool) : (s.takePend v).rxDue = s.rxDue := rfl
@[simp] theorem State.takePend_pendDue (s : State) (v : List Bool) : (s.takePend v).pendDue = v := rfl
@[simp] theorem State.takePend_cbDue (s : State) (v : List Bool) : (s.takePend v).cbDue = s.cbDue := rfl

@[simp] theorem State.takeCb_hb (s : State) (v : List CbEvent) : (s.takeCb v).hb = s.hb := rfl
@[simp] theorem State.takeCb_dataTable (s : State) (v : List CbEvent) : (s.takeCb v).dataTable = s.dataTable := rfl
@[simp] theorem State.takeCb_rtrTable (s : State) (v : List CbEvent) : (s.takeCb v).rtrTable = s.rtrTable := rfl
@[simp] theorem State.takeCb_unm (s : State) (v : List CbEvent) : (s.takeCb v).unm = s.unm := rfl
@[simp] theorem State.takeCb_tmo (s : State) (v : List CbEvent) : (s.takeCb v).tmo = s.tmo := rfl
@[simp] theorem State.takeCb_iter (s : State) (v : List CbEvent) : (s.takeCb v).iter = s.iter := rfl
@[simp] theorem State.takeCb_phase (s : State) (v : List CbEvent) : (s.takeCb v).phase = s.phase := rfl
@[simp] theorem State.takeCb_iterIdx (s : State) (v : List CbEvent) : (s.takeCb v).iterIdx = s.iterIdx := rfl
@[simp] theorem State.takeCb_cur (s : State) (v : List CbEvent) : (s.takeCb v).cur = s.cur := rfl
@[simp] theorem State.takeCb_cfg (s : State) (v : List CbEvent) : (s.takeCb v).cfg = s.cfg := rfl
@[simp] theorem State.takeCb_pins (s : State) (v : List CbEvent) : (s.takeCb v).pins = s.pins := rfl
@[simp] theorem State.takeCb_resetReq (s : State) (v : List CbEvent) : (s.takeCb v).resetReq = s.resetReq := rfl
@[simp] theorem State.takeCb_await (s : State) (v : List CbEvent) : (s.takeCb v).await = s.await := rfl
@[simp] theorem State.takeCb_late (s : State) (v : List CbEvent) : (s.takeCb v).late = { s.late with callback := 0 } := rfl
@[simp] theorem State.takeCb_cmds (s : State) (v : List CbEvent) : (s.takeCb v).cmds = s.cmds := rfl
@[simp] theorem State.takeCb_rx (s : State) (v : List CbEvent) : (s.takeCb v).rx = s.rx := rfl
@[simp] theorem State.takeCb_pend (s : State) (v : List CbEvent) : (s.takeCb v).pend = s.pend := rfl
@[simp] theorem State.takeCb_cb (s : State) (v : List CbEvent) : (s.takeCb v).cb = v := rfl
@[simp] theorem State.takeCb_rsps (s : State) (v : List CbEvent) : (s.takeCb v).rsps = s.rsps := rfl
@[simp] theorem State.takeCb_trace (s : State) (v : List CbEvent) : (s.takeCb v).trace = s.trace := rfl
@[simp] theorem State.takeCb_rxDue (s : State) (v : List CbEvent) : (s.takeCb v).rxDue = s.rxDue := rfl
@[simp] theorem State.takeCb_pendDue (s : State) (v : List CbEvent) : (s.takeCb v).pendDue = s.pendDue := rfl
@[simp] theorem State.takeCb_cbDue (s : State) (v : List CbEvent) : (s.takeCb v).cbDue = v := rfl

end Sys2Proof.Machine
end

