-- ==== Sys2Proof/Laws/Dispatcher.lean ====
section
/-! SUPPORT. What the shared operations of unit D can do, each said once: the guard, a keyed registration, one `advance` of a
`STEP`, and running on until the block waits. -/

namespace Sys2Proof.Machine

/-- The guard lets the body run in `IDLE` (R231). -/
@[simp] theorem guarded_idle {body : State → State} {s : State} (h : s.phase = .idle) : guarded body s = body s := by
  simp [guarded, h]

/-- The guard answers `FAULTED` in `FAULTED` (R231). -/
@[simp] theorem guarded_faulted {body : State → State} {s : State} (h : s.phase = .faulted) :
    guarded body s = refuse .faulted s := by
  simp [guarded, h]

/-- The guard answers `BUSY` while a step is in progress (R231). -/
@[simp] theorem guarded_busy {body : State → State} {s : State} (h1 : s.phase ≠ .idle) (h2 : s.phase ≠ .faulted) :
    guarded body s = refuse .busy s := by
  cases h : s.phase <;> simp_all [guarded]

/-- All that a guarded command can do (R231). -/
theorem guarded_cases (body : State → State) (s : State) :
    (s.phase = .idle ∧ guarded body s = body s) ∨ (s.phase = .faulted ∧ guarded body s = refuse .faulted s) ∨
      (s.phase ≠ .idle ∧ s.phase ≠ .faulted ∧ guarded body s = refuse .busy s) := by
  cases h : s.phase <;> simp [guarded, h]

/-- All that a keyed registration can do after the guard (R236, R238). -/
theorem registerKey_cases (t : List Entry) (cap : Option Nat) (e : Entry) (store : List Entry → State) (s : State) :
    (lookup t e.key ≠ none ∧ registerKey t cap e store s = refuse .dup s) ∨
      (lookup t e.key = none ∧ atCapacity cap t.length = true ∧ registerKey t cap e store s = refuse .full s) ∨
        (lookup t e.key = none ∧ atCapacity cap t.length = false ∧
          registerKey t cap e store s = (store (insertEntry t e)).respond okOnly) := by
  unfold registerKey
  cases h : lookup t e.key with
  | some v => simp
  | none =>
    cases c : atCapacity cap t.length <;> simp

/-- All that one `advance` can be: an answer taken from the port the block waits on (R244). -/
theorem advance_cases {s t : State} (h : advance s = some t) :
    (∃ tm r rest, s.await = .receive tm ∧ s.rxDue = r :: rest ∧ t = received r.meaning (s.takeRx rest)) ∨
      (∃ p rest, s.await = .hasPending ∧ s.pendDue = p :: rest ∧ t = pendingAnswered p (s.takePend rest)) ∨
        (∃ req r rest, s.await = .callback req ∧ s.cbDue = .answer r :: rest ∧
          t = callbackAnswered req r.meaning (s.takeCb rest)) := by
  unfold advance at h
  cases hw : s.await with
  | none => simp [hw] at h
  | receive tm =>
    cases hr : s.rxDue with
    | nil => simp [hw, hr] at h
    | cons r rest => exact .inl ⟨tm, r, rest, rfl, rfl, by simpa [hw, hr] using h.symm⟩
  | hasPending =>
    cases hp : s.pendDue with
    | nil => simp [hw, hp] at h
    | cons p rest => exact .inr (.inl ⟨p, rest, rfl, rfl, by simpa [hw, hp] using h.symm⟩)
  | callback req =>
    cases hc : s.cbDue with
    | nil => simp [hw, hc] at h
    | cons e rest =>
      cases e with
      | command w => simp [hw, hc] at h
      | answer r => exact .inr (.inr ⟨req, r, rest, rfl, rfl, by simpa [hw, hc] using h.symm⟩)

/-- A property that every `advance` keeps is kept by running on (the one induction over a `STEP`). -/
theorem runFor_keeps {P : State → Prop} (keep : ∀ s t, P s → advance s = some t → P t) (n : Nat) (s : State) (h : P s) :
    P (runFor n s) := by
  induction n generalizing s with
  | zero => exact h
  | succ n ih =>
    unfold runFor
    split
    · exact h
    · next t e => exact ih t (keep s t h e)

/-- A property that every `advance` keeps is kept by `resume`. -/
theorem resume_keeps {P : State → Prop} (keep : ∀ s t, P s → advance s = some t → P t) (s : State) (h : P s) :
    P (resume s) :=
  runFor_keeps keep _ s h

/-- The block's state outside one `STEP`'s own registers, and the inputs no `STEP` takes, are the same in two states. -/
structure SameBlock (s t : State) : Prop where
  hb : t.hb = s.hb
  dataTable : t.dataTable = s.dataTable
  rtrTable : t.rtrTable = s.rtrTable
  unm : t.unm = s.unm
  tmo : t.tmo = s.tmo
  iter : t.iter = s.iter
  cfg : t.cfg = s.cfg
  pins : t.pins = s.pins
  resetReq : t.resetReq = s.resetReq
  cmds : t.cmds = s.cmds

/-- What the last actions of an `advance` leave alone: all but the request, `phase`, the scratch registers, the responses and
the trace. -/
structure SameBut (s t : State) : Prop extends SameBlock s t where
  rx : t.rx = s.rx
  pend : t.pend = s.pend
  cb : t.cb = s.cb
  late : t.late = s.late

theorem SameBlock.trans {s t u : State} (a : SameBlock s t) (b : SameBlock t u) : SameBlock s u :=
  ⟨b.hb.trans a.hb, b.dataTable.trans a.dataTable, b.rtrTable.trans a.rtrTable, b.unm.trans a.unm, b.tmo.trans a.tmo,
    b.iter.trans a.iter, b.cfg.trans a.cfg, b.pins.trans a.pins, b.resetReq.trans a.resetReq, b.cmds.trans a.cmds⟩

theorem sameBlock_takeRx (s : State) (v : List RecvResponse) : SameBlock s (s.takeRx v) :=
  ⟨rfl, rfl, rfl, rfl, rfl, rfl, rfl, rfl, rfl, rfl⟩

theorem sameBlock_takePend (s : State) (v : List Bool) : SameBlock s (s.takePend v) :=
  ⟨rfl, rfl, rfl, rfl, rfl, rfl, rfl, rfl, rfl, rfl⟩

theorem sameBlock_takeCb (s : State) (v : List CbEvent) : SameBlock s (s.takeCb v) :=
  ⟨rfl, rfl, rfl, rfl, rfl, rfl, rfl, rfl, rfl, rfl⟩

theorem SameBut.refl (s : State) : SameBut s s :=
  ⟨⟨rfl, rfl, rfl, rfl, rfl, rfl, rfl, rfl, rfl, rfl⟩, rfl, rfl, rfl, rfl⟩

theorem SameBut.trans {s t u : State} (a : SameBut s t) (b : SameBut t u) : SameBut s u :=
  ⟨a.toSameBlock.trans b.toSameBlock, b.rx.trans a.rx, b.pend.trans a.pend, b.cb.trans a.cb, b.late.trans a.late⟩

theorem sameBut_log (s : State) (e : Event) : SameBut s (s.log e) :=
  ⟨⟨rfl, rfl, rfl, rfl, rfl, rfl, rfl, rfl, rfl, rfl⟩, rfl, rfl, rfl, rfl⟩
theorem sameBut_respond (s : State) (r : Rsp) : SameBut s (s.respond r) :=
  ⟨⟨rfl, rfl, rfl, rfl, rfl, rfl, rfl, rfl, rfl, rfl⟩, rfl, rfl, rfl, rfl⟩
theorem sameBut_withPhase (s : State) (p : Phase) : SameBut s (s.withPhase p) :=
  ⟨⟨rfl, rfl, rfl, rfl, rfl, rfl, rfl, rfl, rfl, rfl⟩, rfl, rfl, rfl, rfl⟩
theorem sameBut_withAwait (s : State) (a : Await) : SameBut s (s.withAwait a) :=
  ⟨⟨rfl, rfl, rfl, rfl, rfl, rfl, rfl, rfl, rfl, rfl⟩, rfl, rfl, rfl, rfl⟩
theorem sameBut_withIterIdx (s : State) (n : Nat) : SameBut s (s.withIterIdx n) :=
  ⟨⟨rfl, rfl, rfl, rfl, rfl, rfl, rfl, rfl, rfl, rfl⟩, rfl, rfl, rfl, rfl⟩
theorem sameBut_withCur (s : State) (f : CanFrame) : SameBut s (s.withCur f) :=
  ⟨⟨rfl, rfl, rfl, rfl, rfl, rfl, rfl, rfl, rfl, rfl⟩, rfl, rfl, rfl, rfl⟩

theorem sameBut_enterCallback (req : CbRequest) (s : State) : SameBut s (enterCallback req s) := sameBut_withAwait s _

theorem sameBut_endStep (s : State) : SameBut s (endStep s) :=
  ⟨⟨rfl, rfl, rfl, rfl, rfl, rfl, rfl, rfl, rfl, rfl⟩, rfl, rfl, rfl, rfl⟩

theorem sameBut_failStep (s : State) : SameBut s (failStep s) :=
  ⟨⟨rfl, rfl, rfl, rfl, rfl, rfl, rfl, rfl, rfl, rfl⟩, rfl, rfl, rfl, rfl⟩

theorem sameBut_sendReturned (k : CbKind) (g : Option CanFrame) (s : State) : SameBut s (sendReturned k g s) := by
  unfold sendReturned
  split
  · exact .refl s
  · split
    · exact sameBut_log s _
    · exact .refl s

theorem sameBut_callIteration (s : State) : SameBut s (callIteration s) := by
  unfold callIteration
  split
  · exact sameBut_enterCallback _ s
  · exact sameBut_endStep s

theorem sameBut_enterIteration (s : State) : SameBut s (enterIteration s) :=
  (sameBut_withPhase s _).trans ((sameBut_withIterIdx _ _).trans (sameBut_callIteration _))

theorem sameBut_afterFrame (s : State) : SameBut s (afterFrame s) := by
  unfold afterFrame
  split
  · exact sameBut_withAwait s _
  · exact sameBut_enterIteration s

theorem sameBut_handleFrame (f : CanFrame) (s : State) : SameBut s (handleFrame f s) := by
  unfold handleFrame
  split
  · exact (sameBut_withPhase s _).trans ((sameBut_withCur _ f).trans (sameBut_enterCallback _ _))
  · exact (sameBut_withPhase s _).trans ((sameBut_withCur _ f).trans (sameBut_afterFrame _))

theorem sameBut_handleTimeout (s : State) : SameBut s (handleTimeout s) := by
  unfold handleTimeout
  split
  · exact (sameBut_withPhase s _).trans (sameBut_enterCallback _ _)
  · exact (sameBut_withPhase s _).trans (sameBut_enterIteration _)

theorem sameBut_received (r : Option CanFrame) (s : State) : SameBut s (received r s) := by
  unfold received
  split
  · exact (sameBut_log s _).trans (sameBut_handleFrame _ _)
  · split
    · exact (sameBut_log s _).trans (sameBut_handleTimeout _)
    · exact (sameBut_log s _).trans (sameBut_enterIteration _)

theorem sameBut_pendingAnswered (p : Bool) (s : State) : SameBut s (pendingAnswered p s) := by
  unfold pendingAnswered
  split
  · exact (sameBut_log s _).trans (sameBut_withAwait _ _)
  · exact (sameBut_log s _).trans (sameBut_enterIteration _)

theorem sameBut_afterCallback (s : State) : SameBut s (afterCallback s) := by
  unfold afterCallback
  split
  · exact sameBut_afterFrame s
  · exact sameBut_enterIteration s
  · exact (sameBut_withIterIdx s _).trans (sameBut_callIteration _)
  · exact sameBut_withAwait s _

theorem sameBut_callbackAnswered (req : CbRequest) (a : Answer) (s : State) : SameBut s (callbackAnswered req a s) := by
  unfold callbackAnswered
  split
  · exact (sameBut_log s _).trans (sameBut_failStep _)
  · exact (sameBut_log s _).trans ((sameBut_sendReturned _ _ _).trans (sameBut_afterCallback _))

/-- Passing over late events of the callback agent makes the list no longer. -/
theorem length_dropAbandoned_le (l : List CbEvent) : (dropAbandoned l).length ≤ l.length := by
  induction l with
  | nil => exact le_rfl
  | cons e l ih => cases e <;> simp [dropAbandoned]; omega

theorem length_dropLate_le (n : Nat) (l : List CbEvent) : (dropLate n l).length ≤ l.length := by
  induction n generalizing l with
  | zero => exact le_rfl
  | succ n ih => exact (ih _).trans (length_dropAbandoned_le l)

/-- An abandoned invocation that issued some commands and then answered leaves what comes after its answer (R340). -/
@[simp] theorem dropAbandoned_answered (ws : List PortWord) (r : CbResponse) (l : List CbEvent) :
    dropAbandoned (ws.map CbEvent.command ++ .answer r :: l) = l := by
  induction ws with
  | nil => rfl
  | cons w ws ih => exact ih

/-- One more late invocation is one more passed over, after the earlier ones. -/
theorem dropLate_succ (n : Nat) (l : List CbEvent) : dropLate (n + 1) l = dropAbandoned (dropLate n l) := by
  induction n generalizing l with
  | zero => rfl
  | succ n ih => exact ih (dropAbandoned l)

/-- Every `advance` takes at least one answer from the ports. -/
theorem advance_answersLeft {s t : State} (h : advance s = some t) : answersLeft t < answersLeft s := by
  obtain ⟨_, r, rest, _, hr, rfl⟩ | ⟨p, rest, _, hp, rfl⟩ | ⟨req, r, rest, _, hc, rfl⟩ := advance_cases h
  · have e := sameBut_received r.meaning (s.takeRx rest)
    have l : s.rxDue.length ≤ s.rx.length := by simp [State.rxDue]
    rw [hr] at l
    simp [answersLeft, e.rx, e.pend, e.cb] at l ⊢; omega
  · have e := sameBut_pendingAnswered p (s.takePend rest)
    have l : s.pendDue.length ≤ s.pend.length := by simp [State.pendDue]
    rw [hp] at l
    simp [answersLeft, e.rx, e.pend, e.cb] at l ⊢; omega
  · have e := sameBut_callbackAnswered req r.meaning (s.takeCb rest)
    have l : s.cbDue.length ≤ s.cb.length := length_dropLate_le _ _
    rw [hc] at l
    simp [answersLeft, e.rx, e.pend, e.cb] at l ⊢; omega

/-- With no answer left there is no `advance`. -/
theorem advance_none_of_answersLeft {s : State} (h : answersLeft s = 0) : advance s = none := by
  cases e : advance s with
  | none => rfl
  | some t => have := advance_answersLeft e; omega

/-- `runFor` with enough fuel runs until the block waits. -/
theorem runFor_stops (n : Nat) (s : State) (h : answersLeft s ≤ n) : advance (runFor n s) = none := by
  induction n generalizing s with
  | zero => exact advance_none_of_answersLeft (Nat.le_zero.mp h)
  | succ n ih =>
    unfold runFor
    split
    · next e => exact e
    · next t e => exact ih t (by have := advance_answersLeft e; omega)

/-- `resume` runs until the step ended or the block waits (R329). -/
theorem advance_resume (s : State) : advance (resume s) = none :=
  runFor_stops _ s le_rfl

/-- Fuel beyond the answers left changes nothing. -/
theorem runFor_enough (m n : Nat) (s : State) (hm : answersLeft s ≤ m) (hn : answersLeft s ≤ n) : runFor m s = runFor n s := by
  induction m generalizing n s with
  | zero =>
    have e := advance_none_of_answersLeft (Nat.le_zero.mp hm)
    cases n <;> simp [runFor, e]
  | succ m ih =>
    cases n with
    | zero => simp [runFor, advance_none_of_answersLeft (Nat.le_zero.mp hn)]
    | succ n =>
      cases e : advance s with
      | none => simp [runFor, e]
      | some t =>
        have := advance_answersLeft e
        simpa [runFor, e] using ih n t (by omega) (by omega)

/-- `resume` takes one `advance` and goes on. -/
theorem resume_of_advance {s t : State} (h : advance s = some t) : resume s = resume t := by
  have l := advance_answersLeft h
  have e : resume s = runFor (answersLeft s - 1) t := by
    unfold resume
    obtain ⟨n, hn⟩ : ∃ n, answersLeft s = n + 1 := ⟨answersLeft s - 1, by omega⟩
    rw [hn]
    simp [runFor, h]
  rw [e]
  exact runFor_enough _ _ t (by omega) le_rfl

/-- `resume` does nothing when the block waits. -/
theorem resume_of_waiting {s : State} (h : advance s = none) : resume s = s := by
  unfold resume
  cases answersLeft s <;> simp [runFor, h]

/-- No `advance` touches the buffer, the routing state, the parameters, the host's commands or the reset request (R21, R41,
R245). -/
theorem advance_frame {s t : State} (h : advance s = some t) : SameBlock s t := by
  obtain ⟨_, r, rest, _, _, rfl⟩ | ⟨p, rest, _, _, rfl⟩ | ⟨req, r, rest, _, _, rfl⟩ := advance_cases h
  · exact (sameBlock_takeRx s rest).trans (sameBut_received r.meaning _).toSameBlock
  · exact (sameBlock_takePend s rest).trans (sameBut_pendingAnswered p _).toSameBlock
  · exact (sameBlock_takeCb s rest).trans (sameBut_callbackAnswered req r.meaning _).toSameBlock

/-- Neither does running on. -/
theorem resume_frame (s : State) : SameBlock s (resume s) :=
  resume_keeps (P := SameBlock s) (fun _ _ a h => a.trans (advance_frame h)) s (SameBut.refl s).toSameBlock

end Sys2Proof.Machine
end

