-- ==== Sys2Proof/Laws/Encoding.lean ====
section
/-! SUPPORT. The field packings of the command word are inverse to each other: cited by proofs about decode and encode. -/

namespace Sys2Proof

/-- The five fields of a command word determine it (R90). -/
@[simp] theorem Cmd.toWord_ofWord (w : PortWord) : (Cmd.ofWord w).toWord = w := by
  apply BitVec.eq_of_getLsbD_eq
  intro i hi
  simp only [Cmd.toWord, Cmd.ofWord, BitVec.getLsbD_append, BitVec.getLsbD_extractLsb']
  grind

/-- The fields of a word built from fields are those fields (R90). -/
@[simp] theorem Cmd.ofWord_toWord (c : Cmd) : Cmd.ofWord c.toWord = c := by
  cases c
  simp only [Cmd.toWord, Cmd.ofWord, Cmd.mk.injEq]
  refine ⟨?_, ?_, ?_, ?_, ?_⟩ <;>
    (ext i hi; simp only [BitVec.getElem_extractLsb', BitVec.getLsbD_append]; grind)

/-- Format P1 loses nothing (R100). -/
@[simp] theorem unpackSingle_packSingle (p : SingleParam) : unpackSingle (packSingle p) = p := by
  obtain ⟨i, l, m⟩ := p
  have hi : ((packSingle ⟨i, l, m⟩).extractLsb' 11 3) = BitVec.ofFin i := by
    unfold packSingle; ext k hk
    simp only [BitVec.getElem_extractLsb', BitVec.getLsbD_append]; grind
  simp only [unpackSingle, SingleParam.mk.injEq]
  refine ⟨by rw [hi], ?_, ?_⟩ <;>
    (unfold packSingle; ext k hk; simp only [BitVec.getElem_extractLsb', BitVec.getLsbD_append]; grind)

/-- Format P1 ignores `a0[31:14]` and nothing else (R100, R113). -/
theorem packSingle_unpackSingle (a0 : U32) : packSingle (unpackSingle a0) = a0 &&& 0x3FFF#32 := by
  have mask : ∀ i, (0x3FFF#32).getLsbD i = decide (i < 14) := by
    intro i
    rw [show (0x3FFF#32) = BitVec.ofNat 32 (2 ^ 14 - 1) from rfl, BitVec.getLsbD_ofNat, Nat.testBit_two_pow_sub_one]
    grind
  apply BitVec.eq_of_getLsbD_eq
  intro i hi
  simp only [packSingle, unpackSingle, BitVec.getLsbD_and, mask, BitVec.ofFin_toFin, BitVec.getLsbD_append,
    BitVec.getLsbD_extractLsb', BitVec.getLsbD_zero]
  grind

/-- Format P2 loses nothing (R101). -/
@[simp] theorem unpackPair_packPair (p : PairParam) : unpackPair (packPair p) = p := by
  obtain ⟨⟨i, l, m⟩, ⟨j, l', m'⟩, sh⟩ := p
  have hi : (packPair ⟨⟨i, l, m⟩, ⟨j, l', m'⟩, sh⟩).extractLsb' 29 3 = BitVec.ofFin i := by
    unfold packPair; ext k hk
    simp only [BitVec.getElem_extractLsb', BitVec.getLsbD_append]; grind
  have hj : (packPair ⟨⟨i, l, m⟩, ⟨j, l', m'⟩, sh⟩).extractLsb' 15 3 = BitVec.ofFin j := by
    unfold packPair; ext k hk
    simp only [BitVec.getElem_extractLsb', BitVec.getLsbD_append]; grind
  simp only [unpackPair, PairParam.mk.injEq, SingleParam.mk.injEq]
  refine ⟨⟨by rw [hi], ?_, ?_⟩, ⟨by rw [hj], ?_, ?_⟩, ?_⟩ <;>
    (unfold packPair; ext k hk; simp only [BitVec.getElem_extractLsb', BitVec.getLsbD_append]; grind)

/-- Format P2 reads every bit of its word (R101). -/
@[simp] theorem packPair_unpackPair (a0 : U32) : packPair (unpackPair a0) = a0 := by
  apply BitVec.eq_of_getLsbD_eq
  intro i hi
  simp only [packPair, unpackPair, BitVec.ofFin_toFin, BitVec.getLsbD_append, BitVec.getLsbD_extractLsb']
  grind

end Sys2Proof
end

