-- ==== Sys2Proof/Laws/PerInstr.lean ====
section
/-! SUPPORT. Facts about every command as syntax, one lemma per constructor: the opcode its encoding carries is listed in the
opcode map, and its two top bits name the command's unit (30_encoding.md R91, R108). -/

namespace Sys2Proof.Laws.OpcodeListed

/-- The opcode of an instruction's encoding is listed (R108), and `op[7:6]` selects the instruction's unit (R91). -/
def Statement (i : Instr) : Prop :=
  (encodeCmd i).wellFormed = true ∧ (encodeCmd i).op.extractLsb' 6 2 = i.unit.code

theorem xs (p : SingleParam) : Statement (.xs p) := ⟨by rfl, by simp [encodeCmd, Instr.unit, BlockUnit.code]⟩
theorem is (p : SingleParam) (v : U32) : Statement (.is p v) := ⟨by rfl, by simp [encodeCmd, Instr.unit, BlockUnit.code]⟩
theorem xp (p : PairParam) : Statement (.xp p) := ⟨by rfl, by simp [encodeCmd, Instr.unit, BlockUnit.code]⟩
theorem ip (p : PairParam) (v : U32) : Statement (.ip p v) := ⟨by rfl, by simp [encodeCmd, Instr.unit, BlockUnit.code]⟩
theorem idEncode (dt mf api dn : U32) : Statement (.idEncode dt mf api dn) := ⟨by rfl, by simp [encodeCmd, Instr.unit, BlockUnit.code]⟩
theorem idDecode (id : U32) : Statement (.idDecode id) := ⟨by rfl, by simp [encodeCmd, Instr.unit, BlockUnit.code]⟩
theorem idFromRaw (id : U32) : Statement (.idFromRaw id) := ⟨by rfl, by simp [encodeCmd, Instr.unit, BlockUnit.code]⟩
theorem hbGetHour : Statement .hbGetHour := ⟨by rfl, by simp [encodeCmd, Instr.unit, BlockUnit.code]⟩
theorem hbGetMinute : Statement .hbGetMinute := ⟨by rfl, by simp [encodeCmd, Instr.unit, BlockUnit.code]⟩
theorem hbGetSecond : Statement .hbGetSecond := ⟨by rfl, by simp [encodeCmd, Instr.unit, BlockUnit.code]⟩
theorem hbGetDay : Statement .hbGetDay := ⟨by rfl, by simp [encodeCmd, Instr.unit, BlockUnit.code]⟩
theorem hbGetMonth : Statement .hbGetMonth := ⟨by rfl, by simp [encodeCmd, Instr.unit, BlockUnit.code]⟩
theorem hbGetYear : Statement .hbGetYear := ⟨by rfl, by simp [encodeCmd, Instr.unit, BlockUnit.code]⟩
theorem hbGetTournamentType : Statement .hbGetTournamentType := ⟨by rfl, by simp [encodeCmd, Instr.unit, BlockUnit.code]⟩
theorem hbGetSystemWatchdog : Statement .hbGetSystemWatchdog := ⟨by rfl, by simp [encodeCmd, Instr.unit, BlockUnit.code]⟩
theorem hbGetTestMode : Statement .hbGetTestMode := ⟨by rfl, by simp [encodeCmd, Instr.unit, BlockUnit.code]⟩
theorem hbGetAutonomous : Statement .hbGetAutonomous := ⟨by rfl, by simp [encodeCmd, Instr.unit, BlockUnit.code]⟩
theorem hbGetEnabled : Statement .hbGetEnabled := ⟨by rfl, by simp [encodeCmd, Instr.unit, BlockUnit.code]⟩
theorem hbGetRedAlliance : Statement .hbGetRedAlliance := ⟨by rfl, by simp [encodeCmd, Instr.unit, BlockUnit.code]⟩
theorem hbGetReplayNumber : Statement .hbGetReplayNumber := ⟨by rfl, by simp [encodeCmd, Instr.unit, BlockUnit.code]⟩
theorem hbGetMatchNumber : Statement .hbGetMatchNumber := ⟨by rfl, by simp [encodeCmd, Instr.unit, BlockUnit.code]⟩
theorem hbGetMatchTimeSeconds : Statement .hbGetMatchTimeSeconds := ⟨by rfl, by simp [encodeCmd, Instr.unit, BlockUnit.code]⟩
theorem hbClear : Statement .hbClear := ⟨by rfl, by simp [encodeCmd, Instr.unit, BlockUnit.code]⟩
theorem hbLoad (w0 w1 : U32) : Statement (.hbLoad w0 w1) := ⟨by rfl, by simp [encodeCmd, Instr.unit, BlockUnit.code]⟩
theorem hbRead : Statement .hbRead := ⟨by rfl, by simp [encodeCmd, Instr.unit, BlockUnit.code]⟩
theorem hbSetHour (value : U32) : Statement (.hbSetHour value) := ⟨by rfl, by simp [encodeCmd, Instr.unit, BlockUnit.code]⟩
theorem hbSetMinute (value : U32) : Statement (.hbSetMinute value) := ⟨by rfl, by simp [encodeCmd, Instr.unit, BlockUnit.code]⟩
theorem hbSetSecond (value : U32) : Statement (.hbSetSecond value) := ⟨by rfl, by simp [encodeCmd, Instr.unit, BlockUnit.code]⟩
theorem hbSetDay (value : U32) : Statement (.hbSetDay value) := ⟨by rfl, by simp [encodeCmd, Instr.unit, BlockUnit.code]⟩
theorem hbSetMonth (value : U32) : Statement (.hbSetMonth value) := ⟨by rfl, by simp [encodeCmd, Instr.unit, BlockUnit.code]⟩
theorem hbSetYear (value : U32) : Statement (.hbSetYear value) := ⟨by rfl, by simp [encodeCmd, Instr.unit, BlockUnit.code]⟩
theorem hbSetTournamentType (value : U32) : Statement (.hbSetTournamentType value) := ⟨by rfl, by simp [encodeCmd, Instr.unit, BlockUnit.code]⟩
theorem hbSetSystemWatchdog (value : U32) : Statement (.hbSetSystemWatchdog value) := ⟨by rfl, by simp [encodeCmd, Instr.unit, BlockUnit.code]⟩
theorem hbSetTestMode (value : U32) : Statement (.hbSetTestMode value) := ⟨by rfl, by simp [encodeCmd, Instr.unit, BlockUnit.code]⟩
theorem hbSetAutonomous (value : U32) : Statement (.hbSetAutonomous value) := ⟨by rfl, by simp [encodeCmd, Instr.unit, BlockUnit.code]⟩
theorem hbSetEnabled (value : U32) : Statement (.hbSetEnabled value) := ⟨by rfl, by simp [encodeCmd, Instr.unit, BlockUnit.code]⟩
theorem hbSetRedAlliance (value : U32) : Statement (.hbSetRedAlliance value) := ⟨by rfl, by simp [encodeCmd, Instr.unit, BlockUnit.code]⟩
theorem hbSetReplayNumber (value : U32) : Statement (.hbSetReplayNumber value) := ⟨by rfl, by simp [encodeCmd, Instr.unit, BlockUnit.code]⟩
theorem hbSetMatchNumber (value : U32) : Statement (.hbSetMatchNumber value) := ⟨by rfl, by simp [encodeCmd, Instr.unit, BlockUnit.code]⟩
theorem hbSetMatchTimeSeconds (value : U32) : Statement (.hbSetMatchTimeSeconds value) := ⟨by rfl, by simp [encodeCmd, Instr.unit, BlockUnit.code]⟩
theorem regHandler (id hid : U32) : Statement (.regHandler id hid) := ⟨by rfl, by simp [encodeCmd, Instr.unit, BlockUnit.code]⟩
theorem regRtrHandler (id hid : U32) : Statement (.regRtrHandler id hid) := ⟨by rfl, by simp [encodeCmd, Instr.unit, BlockUnit.code]⟩
theorem regUnmatched (hid : U32) : Statement (.regUnmatched hid) := ⟨by rfl, by simp [encodeCmd, Instr.unit, BlockUnit.code]⟩
theorem regTimeout (hid : U32) : Statement (.regTimeout hid) := ⟨by rfl, by simp [encodeCmd, Instr.unit, BlockUnit.code]⟩
theorem regIteration (hid : U32) : Statement (.regIteration hid) := ⟨by rfl, by simp [encodeCmd, Instr.unit, BlockUnit.code]⟩
theorem step : Statement .step := ⟨by rfl, by simp [encodeCmd, Instr.unit, BlockUnit.code]⟩

end Sys2Proof.Laws.OpcodeListed
end

