-- ==== Sys2Proof/Laws/Tables.lean ====
section
/-! SUPPORT. The handler tables: looking up after an insertion, and the canonical form that insertion keeps (10_state.md
R24). -/

namespace Sys2Proof.Machine

@[simp] theorem lookup_nil (k : U32) : lookup [] k = none := rfl

/-- Looking up after inserting a new key: the new key gives its tag, every other key what it gave before (R24, R236). -/
theorem lookup_insertEntry {t : List Entry} {e : Entry} (fresh : lookup t e.key = none) (k : U32) :
    lookup (insertEntry t e) k = if e.key = k then some e.hid else lookup t k := by
  induction t with
  | nil => rfl
  | cons x t ih =>
    have hx : x.key ≠ e.key := by
      intro h; simp [lookup, h] at fresh
    have ft : lookup t e.key = none := by simpa [lookup, hx] using fresh
    by_cases lt : e.key.toNat < x.key.toNat
    · simp [insertEntry, lt, lookup]
    · simp only [insertEntry, if_neg lt, lookup, ih ft]
      split_ifs with h1 h2 <;> simp_all

@[simp] theorem length_insertEntry (t : List Entry) (e : Entry) : (insertEntry t e).length = t.length + 1 := by
  induction t with
  | nil => rfl
  | cons x t ih => simp only [insertEntry]; split_ifs <;> simp [ih]

/-- The first key of an insertion is the new one or the old first one. -/
theorem insertEntry_head (x : Entry) (t : List Entry) (e : Entry) :
    ∃ y u, insertEntry (x :: t) e = y :: u ∧ (y = e ∨ y = x) := by
  by_cases lt : e.key.toNat < x.key.toNat
  · exact ⟨e, x :: t, by simp [insertEntry, lt], .inl rfl⟩
  · exact ⟨x, insertEntry t e, by simp [insertEntry, lt], .inr rfl⟩

/-- Inserting a new key keeps the canonical form (R24). -/
theorem keysRise_insertEntry {t : List Entry} {e : Entry} (rise : keysRise t = true) (fresh : lookup t e.key = none) :
    keysRise (insertEntry t e) = true := by
  induction t with
  | nil => rfl
  | cons x t ih =>
    have hx : x.key ≠ e.key := by
      intro h; simp [lookup, h] at fresh
    have ft : lookup t e.key = none := by simpa [lookup, hx] using fresh
    by_cases lt : e.key.toNat < x.key.toNat
    · simp [insertEntry, lt, keysRise, rise]
    · have gt : x.key.toNat < e.key.toNat := by
        have : x.key.toNat ≠ e.key.toNat := fun h => hx (BitVec.eq_of_toNat_eq h)
        omega
      cases t with
      | nil => simp [insertEntry, lt, keysRise, gt]
      | cons y u =>
        simp only [keysRise, Bool.and_eq_true, decide_eq_true_eq] at rise
        have rest := ih rise.2 ft
        obtain ⟨z, w, hz, hor⟩ := insertEntry_head y u e
        rw [insertEntry, if_neg lt, hz]
        rw [hz] at rest
        have : x.key.toNat < z.key.toNat := by
          cases hor with
          | inl h => rw [h]; exact gt
          | inr h => rw [h]; exact rise.1
        simp [keysRise, this, rest]

/-- A length that has not reached a capacity it is within leaves room for one more (R236, R241). -/
theorem withinCapacity_succ {cap : Option Nat} {n : Nat} (h : withinCapacity cap n = true) (room : atCapacity cap n = false) :
    withinCapacity cap (n + 1) = true := by
  cases cap with
  | none => rfl
  | some c => simp [withinCapacity, atCapacity] at *; omega

end Sys2Proof.Machine
end

