-- ==== Sys2Proof/Tests/Slice0.lean ====
section
/-! SUPPORT. The model's own tests: ill-formed terms that the checks refuse, one written word for every command, small steps on
the values of 95_test_vectors.md, and for every statement with hypotheses a concrete case that meets them. -/

namespace Sys2Proof.Tests

open Sys2Proof.Machine

/-! ### The states and answers the tests use -/

/-- A small state in `IDLE`: empty, non-drain, every capacity 2. -/
def small : State where
  hb := HBuf.zero
  dataTable := []
  rtrTable := []
  unm := ⟨false, 0⟩
  tmo := ⟨false, 0⟩
  iter := []
  phase := .idle
  iterIdx := 0
  cur := CanFrame.zero
  cfg := ⟨false, 5, some 2, some 2, some 2, true⟩
  pins := ⟨true, 6⟩
  resetReq := false
  await := .none
  late := ⟨0, 0, 0⟩
  cmds := []
  rx := []
  pend := []
  cb := []
  rsps := []
  trace := []

/-- `small` with a buffer, given as its two words. -/
def held (w0 w1 : U32) : State :=
  small.withHb (HBuf.ofWords w0 w1)

/-- A data frame with the identifier `X = 0x0A080041` of 95_test_vectors.md. -/
def frameX : CanFrame :=
  ⟨0x0A080041#32, true, false, 1, 0x0100000000000000#64⟩

/-- A frame that a callback returns. -/
def reply : CanFrame :=
  ⟨0x123#32, true, false, 0, 0⟩

/-- `small` with a handler 7 for `X` and the iteration callback 11. -/
def routed : State :=
  (small.withDataTable [⟨0x0A080041#32, 7⟩]).withIter [11]

/-- `routed` in drain mode. -/
def routedDrain : State :=
  { routed with cfg := ⟨true, 5, none, none, none, true⟩ }

/-- A callback answers `Ret(None)`. -/
def quietly : CbResponse := ⟨false, false, CanFrame.zero⟩

/-- A callback answers `Ret(Some reply)`. -/
def replying : CbResponse := ⟨false, true, reply⟩

/-- A callback answers `Fault`; the record's other fields do not matter. -/
def failing : CbResponse := ⟨true, true, reply⟩

/-- The transport answers `Some frameX`. -/
def gotX : RecvResponse := ⟨true, frameX⟩

/-- The transport answers `None`. -/
def gotNone : RecvResponse := ⟨false, CanFrame.zero⟩

/-- `routed` while the handler of `X` is being invoked. -/
def calling : State :=
  ((routed.withPhase .dispatch).withCur frameX).withAwait (.callback ⟨.data, 7, some frameX⟩)

/-- `small` after a callback failed. -/
def broken : State :=
  small.withPhase .faulted

/-- The last response after an outcome. -/
def answered : Host.Outcome State Fault Refusal → Option Rsp
  | .next t => t.rsps.getLast?
  | .fault _ => none
  | .refused _ => none

/-- The results of the last response after an outcome, when its status is `OK`. -/
def results (o : Host.Outcome State Fault Refusal) : Option (U32 × U32 × U32 × U32) :=
  match answered o with
  | some ⟨.ok, r0, r1, r2, r3⟩ => some (r0, r1, r2, r3)
  | _ => none

/-- The two words of the buffer after an outcome. -/
def buffer : Host.Outcome State Fault Refusal → Option (U32 × U32)
  | .next t => some (t.hb.word0, t.hb.word1)
  | .fault _ => none
  | .refused _ => none

/-- The status of the last response after an outcome. -/
def statusOf (o : Host.Outcome State Fault Refusal) : Option Status :=
  (answered o).map Rsp.status

/-- The state after an outcome. -/
def stateOf : Host.Outcome State Fault Refusal → State
  | .next t => t
  | .fault _ => small
  | .refused _ => small

/-- The trace after an outcome. -/
def traceOf : Host.Outcome State Fault Refusal → List Event
  | .next t => t.trace
  | .fault _ => []
  | .refused _ => []

/-! ### Well-formedness: ill-formed terms are refused -/

theorem test_unlisted_opcode_refused : (Cmd.mk 0x8F#8 0xDEADBEEF#32 0 0 0).wellFormed = false := by decide
theorem test_listed_opcode_accepted : (Cmd.mk 0x8E#8 0xDEADBEEF#32 0 0 0).wellFormed = true := by decide
theorem test_field_over_byte_end_refused : (SingleParam.mk 4 5 0x0F#8).fits 4 = false := by decide
theorem test_mask_of_other_width_refused : (SingleParam.mk 4 2 0x05#8).fits 3 = false := by decide
theorem test_pair_sharing_bits_refused : (PairParam.mk ⟨0, 0, 0xFF#8⟩ ⟨0, 0, 0x0F#8⟩ 4).fits 8 = false := by decide
theorem test_pair_overlapping_value_refused : (PairParam.mk ⟨0, 0, 0xFF#8⟩ ⟨1, 0, 0xFF#8⟩ 4).fits 8 = false := by decide
theorem test_long_frame_not_conforming : (CanFrame.mk 0x123#32 false false 9 0).conforming = false := by decide
theorem test_wide_standard_identifier_not_conforming : (CanFrame.mk 0x800#32 false false 0 0).conforming = false := by decide
theorem test_remote_request_with_payload_not_conforming : (CanFrame.mk 0x123#32 false true 1 0).conforming = false := by decide
theorem test_descending_keys_not_well_formed : tableWf none [⟨2, 7⟩, ⟨1, 7⟩] = false := by decide
theorem test_repeated_key_not_well_formed : tableWf none [⟨1, 7⟩, ⟨1, 8⟩] = false := by decide
theorem test_table_over_capacity_not_well_formed : tableWf (some 1) [⟨1, 7⟩, ⟨2, 7⟩] = false := by decide

/-! ### Decoding: a word written out from the spec's encoding, for every command (30_encoding.md R100 to R108,
95_test_vectors.md V1 to V63). The number is the 34 digits of the word. -/

theorem test_decode_primitives :
    decodeTableWord 136 0x000000031F000000000000000000000000 = some (.xs ⟨0, 3, 0x1F#8⟩) ∧
    decodeTableWord 136 0x00FFFFF8FF000000000000000000000000 = some (.xs ⟨7, 0, 0xFF#8⟩) ∧
    decodeTableWord 136 0x01000034FF000000AB0000000000000000 = some (.is ⟨6, 4, 0xFF#8⟩ 0xAB#32) ∧
    decodeTableWord 136 0x02703D80F4000000000000000000000000 = some (.xp ⟨⟨3, 4, 0x0F#8⟩, ⟨3, 0, 0x0F#8⟩, 4⟩) ∧
    decodeTableWord 136 0x02E3FC000F000000000000000000000000 = some (.xp ⟨⟨7, 0, 0xFF#8⟩, ⟨0, 0, 0x00#8⟩, 15⟩) ∧
    decodeTableWord 136 0x03207D7011000000150000000000000000 = some (.ip ⟨⟨1, 0, 0x1F#8⟩, ⟨2, 7, 0x01#8⟩, 1⟩ 0x15#32) := by decide

theorem test_decode_identifier :
    decodeTableWord 136 0x400000002A000001080000040100000041 = some (.idEncode 0x2A#32 0x108#32 0x401#32 0x41#32) ∧
    decodeTableWord 136 0x41020405C5000000000000000000000000 = some (.idDecode 0x020405C5#32) ∧
    decodeTableWord 136 0x42EA080041000000000000000000000000 = some (.idFromRaw 0xEA080041#32) := by decide

theorem test_decode_getters :
    decodeTableWord 136 0x8000000000000000000000000000000000 = some .hbGetHour ∧
    decodeTableWord 136 0x8100000000000000000000000000000000 = some .hbGetMinute ∧
    decodeTableWord 136 0x8200000000000000000000000000000000 = some .hbGetSecond ∧
    decodeTableWord 136 0x8300000000000000000000000000000000 = some .hbGetDay ∧
    decodeTableWord 136 0x8400000000000000000000000000000000 = some .hbGetMonth ∧
    decodeTableWord 136 0x8500000000000000000000000000000000 = some .hbGetYear ∧
    decodeTableWord 136 0x8600000000000000000000000000000000 = some .hbGetTournamentType ∧
    decodeTableWord 136 0x8700000000000000000000000000000000 = some .hbGetSystemWatchdog ∧
    decodeTableWord 136 0x8800000000000000000000000000000000 = some .hbGetTestMode ∧
    decodeTableWord 136 0x8900000000000000000000000000000000 = some .hbGetAutonomous ∧
    decodeTableWord 136 0x8A00000000000000000000000000000000 = some .hbGetEnabled ∧
    decodeTableWord 136 0x8B00000000000000000000000000000000 = some .hbGetRedAlliance ∧
    decodeTableWord 136 0x8C00000000000000000000000000000000 = some .hbGetReplayNumber ∧
    decodeTableWord 136 0x8D00000000000000000000000000000000 = some .hbGetMatchNumber ∧
    decodeTableWord 136 0x8E00000000000000000000000000000000 = some .hbGetMatchTimeSeconds := by decide

theorem test_decode_setters :
    decodeTableWord 136 0xA00000001F000000000000000000000000 = some (.hbSetHour 0x1F#32) ∧
    decodeTableWord 136 0xA10000003F000000000000000000000000 = some (.hbSetMinute 0x3F#32) ∧
    decodeTableWord 136 0xA20000003F000000000000000000000000 = some (.hbSetSecond 0x3F#32) ∧
    decodeTableWord 136 0xA30000001F000000000000000000000000 = some (.hbSetDay 0x1F#32) ∧
    decodeTableWord 136 0xA40000000F000000000000000000000000 = some (.hbSetMonth 0xF#32) ∧
    decodeTableWord 136 0xA50000003F000000000000000000000000 = some (.hbSetYear 0x3F#32) ∧
    decodeTableWord 136 0xA600000007000000000000000000000000 = some (.hbSetTournamentType 0x7#32) ∧
    decodeTableWord 136 0xA700000001000000000000000000000000 = some (.hbSetSystemWatchdog 0x1#32) ∧
    decodeTableWord 136 0xA800000001000000000000000000000000 = some (.hbSetTestMode 0x1#32) ∧
    decodeTableWord 136 0xA900000001000000000000000000000000 = some (.hbSetAutonomous 0x1#32) ∧
    decodeTableWord 136 0xAA00000001000000000000000000000000 = some (.hbSetEnabled 0x1#32) ∧
    decodeTableWord 136 0xAB00000001000000000000000000000000 = some (.hbSetRedAlliance 0x1#32) ∧
    decodeTableWord 136 0xAC0000003F000000000000000000000000 = some (.hbSetReplayNumber 0x3F#32) ∧
    decodeTableWord 136 0xAD000003FF000000000000000000000000 = some (.hbSetMatchNumber 0x3FF#32) ∧
    decodeTableWord 136 0xAE000000FF000000000000000000000000 = some (.hbSetMatchTimeSeconds 0xFF#32) := by decide

theorem test_decode_whole_buffer :
    decodeTableWord 136 0x9000000000000000000000000000000000 = some .hbClear ∧
    decodeTableWord 136 0x91A55AC33C9669F00FFFFFFFFFFFFFFFFF = some (.hbLoad 0xA55AC33C#32 0x9669F00F#32) ∧
    decodeTableWord 136 0x9200000000000000000000000000000000 = some .hbRead := by decide

theorem test_decode_dispatcher :
    decodeTableWord 136 0xC00A080041000000070000000000000000 = some (.regHandler 0x0A080041#32 7) ∧
    decodeTableWord 136 0xC10A080041000000090000000000000000 = some (.regRtrHandler 0x0A080041#32 9) ∧
    decodeTableWord 136 0xC200000003000000000000000000000000 = some (.regUnmatched 3) ∧
    decodeTableWord 136 0xC300000005000000000000000000000000 = some (.regTimeout 5) ∧
    decodeTableWord 136 0xC40000000B000000000000000000000000 = some (.regIteration 11) ∧
    decodeTableWord 136 0xC800000000000000000000000000000000 = some .step := by decide

/-- The illegal opcodes of V78 select no command. -/
theorem test_decode_refuses_unlisted :
    decodeTableWord 136 0x8FDEADBEEF000000000000000000000000 = none ∧
    decodeTableWord 136 0xAFDEADBEEF000000000000000000000000 = none ∧
    decodeTableWord 136 0x04DEADBEEF000000000000000000000000 = none ∧
    decodeTableWord 136 0x43DEADBEEF000000000000000000000000 = none ∧
    decodeTableWord 136 0x93DEADBEEF000000000000000000000000 = none ∧
    decodeTableWord 136 0xC5DEADBEEF000000000000000000000000 = none ∧
    decodeTableWord 136 0xC9DEADBEEF000000000000000000000000 = none ∧
    decodeTableWord 136 0xFFDEADBEEF000000000000000000000000 = none := by decide

/-- The encoder writes the words of V26 and V50. -/
theorem test_encode_words :
    encode (.ip ⟨⟨1, 0, 0x1F#8⟩, ⟨2, 7, 0x01#8⟩, 1⟩ 0x15#32) = 0x03207D7011000000150000000000000000#136 ∧
    encode (.hbLoad 0xA55AC33C#32 0x9669F00F#32) = 0x91A55AC33C9669F00F0000000000000000#136 := by decide

/-- The written form of R116. -/
theorem test_written_form :
    written (.idEncode 10 8 1 1) = "ID_ENCODE 10, 8, 1, 1" ∧ written .hbGetHour = "HB_GET_HOUR" := by decide

/-! ### Units P and I (95_test_vectors.md V12 to V45) -/

theorem test_xs : results (exec (.xs ⟨4, 7, 0xFF#8⟩) (held 0xA55AC33C 0x9669F00F)) = some (1, 0, 0, 0) := by decide
theorem test_xp_overlap : results (exec (.xp ⟨⟨0, 0, 0xFF#8⟩, ⟨1, 0, 0xFF#8⟩, 4⟩) (held 0xA55AC33C 0x9669F00F)) =
    some (0xA5A, 0, 0, 0) := by decide
theorem test_xp_largest_shift : results (exec (.xp ⟨⟨7, 0, 0xFF#8⟩, ⟨0, 0, 0x00#8⟩, 15⟩) (held 0xA55AC33C 0x9669F00F)) =
    some (0x78000, 0, 0, 0) := by decide
theorem test_is_mask_over_byte_end : buffer (exec (.is ⟨6, 4, 0xFF#8⟩ 0xAB) (held 0xA55AC33C 0x9669F00F)) =
    some (0xA55AC33C#32, 0x9669B00F#32) := by decide
theorem test_is_one_bit : buffer (exec (.is ⟨4, 7, 0x01#8⟩ 0) (held 0xA55AC33C 0x9669F00F)) =
    some (0xA55AC33C#32, 0x1669F00F#32) := by decide
theorem test_ip_low_part_wins : buffer (exec (.ip ⟨⟨0, 0, 0xFF#8⟩, ⟨0, 0, 0x0F#8⟩, 4⟩ 0xABC) small) =
    some (0xAC000000#32, 0#32) := by decide
theorem test_ip_order_of_bytes : buffer (exec (.ip ⟨⟨7, 0, 0x0F#8⟩, ⟨0, 4, 0x0F#8⟩, 4⟩ 0) (held 0xFFFFFFFF 0xFFFFFFFF)) =
    some (0x0FFFFFFF#32, 0xFFFFFFF0#32) := by decide
theorem test_id_encode : results (exec (.idEncode 10 8 1 1) small) = some (0x0A080041, 0, 0, 0) := by decide
theorem test_id_encode_truncates : results (exec (.idEncode 0xFFFFFFFF 0xFFFFFFFF 0xFFFFFFFF 0xFFFFFFFF) small) =
    some (0x1FFFFFFF, 0, 0, 0) := by decide
theorem test_id_decode : results (exec (.idDecode 0x12345678) small) = some (18, 52, 345, 56) := by decide
theorem test_id_decode_ignores_top_bits : results (exec (.idDecode 0xEA080041) small) = some (10, 8, 1, 1) := by decide
theorem test_id_from_raw : results (exec (.idFromRaw 0xEA080041) small) = some (0xEA080041, 0, 0, 0) := by decide

/-! ### Unit H: every getter on the three buffers of V47, every setter on the two buffers of V46 -/

theorem test_get_hour :
    results (exec .hbGetHour (held 0xA55AC33C 0x9669F00F)) = some (20, 0, 0, 0) ∧
    results (exec .hbGetHour (held 0x12345678 0x9ABCDEF0)) = some (2, 0, 0, 0) ∧
    results (exec .hbGetHour (held 0xFFFFFFFF 0xFFFFFFFF)) = some (31, 0, 0, 0) := by decide
theorem test_get_minute :
    results (exec .hbGetMinute (held 0xA55AC33C 0x9669F00F)) = some (42, 0, 0, 0) ∧
    results (exec .hbGetMinute (held 0x12345678 0x9ABCDEF0)) = some (17, 0, 0, 0) ∧
    results (exec .hbGetMinute (held 0xFFFFFFFF 0xFFFFFFFF)) = some (63, 0, 0, 0) := by decide
theorem test_get_second :
    results (exec .hbGetSecond (held 0xA55AC33C 0x9669F00F)) = some (53, 0, 0, 0) ∧
    results (exec .hbGetSecond (held 0x12345678 0x9ABCDEF0)) = some (40, 0, 0, 0) ∧
    results (exec .hbGetSecond (held 0xFFFFFFFF 0xFFFFFFFF)) = some (63, 0, 0, 0) := by decide
theorem test_get_day :
    results (exec .hbGetDay (held 0xA55AC33C 0x9669F00F)) = some (16, 0, 0, 0) ∧
    results (exec .hbGetDay (held 0x12345678 0x9ABCDEF0)) = some (21, 0, 0, 0) ∧
    results (exec .hbGetDay (held 0xFFFFFFFF 0xFFFFFFFF)) = some (31, 0, 0, 0) := by decide
theorem test_get_month :
    results (exec .hbGetMonth (held 0xA55AC33C 0x9669F00F)) = some (12, 0, 0, 0) ∧
    results (exec .hbGetMonth (held 0x12345678 0x9ABCDEF0)) = some (9, 0, 0, 0) ∧
    results (exec .hbGetMonth (held 0xFFFFFFFF 0xFFFFFFFF)) = some (15, 0, 0, 0) := by decide
theorem test_get_year :
    results (exec .hbGetYear (held 0xA55AC33C 0x9669F00F)) = some (60, 0, 0, 0) ∧
    results (exec .hbGetYear (held 0x12345678 0x9ABCDEF0)) = some (56, 0, 0, 0) ∧
    results (exec .hbGetYear (held 0xFFFFFFFF 0xFFFFFFFF)) = some (63, 0, 0, 0) := by decide
theorem test_get_tournament_type :
    results (exec .hbGetTournamentType (held 0xA55AC33C 0x9669F00F)) = some (4, 0, 0, 0) ∧
    results (exec .hbGetTournamentType (held 0x12345678 0x9ABCDEF0)) = some (4, 0, 0, 0) ∧
    results (exec .hbGetTournamentType (held 0xFFFFFFFF 0xFFFFFFFF)) = some (7, 0, 0, 0) := by decide
theorem test_get_system_watchdog :
    results (exec .hbGetSystemWatchdog (held 0xA55AC33C 0x9669F00F)) = some (1, 0, 0, 0) ∧
    results (exec .hbGetSystemWatchdog (held 0x12345678 0x9ABCDEF0)) = some (1, 0, 0, 0) ∧
    results (exec .hbGetSystemWatchdog (held 0xFFFFFFFF 0xFFFFFFFF)) = some (1, 0, 0, 0) := by decide
theorem test_get_test_mode :
    results (exec .hbGetTestMode (held 0xA55AC33C 0x9669F00F)) = some (0, 0, 0, 0) ∧
    results (exec .hbGetTestMode (held 0x12345678 0x9ABCDEF0)) = some (1, 0, 0, 0) ∧
    results (exec .hbGetTestMode (held 0xFFFFFFFF 0xFFFFFFFF)) = some (1, 0, 0, 0) := by decide
theorem test_get_autonomous :
    results (exec .hbGetAutonomous (held 0xA55AC33C 0x9669F00F)) = some (1, 0, 0, 0) ∧
    results (exec .hbGetAutonomous (held 0x12345678 0x9ABCDEF0)) = some (0, 0, 0, 0) ∧
    results (exec .hbGetAutonomous (held 0xFFFFFFFF 0xFFFFFFFF)) = some (1, 0, 0, 0) := by decide
theorem test_get_enabled :
    results (exec .hbGetEnabled (held 0xA55AC33C 0x9669F00F)) = some (1, 0, 0, 0) ∧
    results (exec .hbGetEnabled (held 0x12345678 0x9ABCDEF0)) = some (1, 0, 0, 0) ∧
    results (exec .hbGetEnabled (held 0xFFFFFFFF 0xFFFFFFFF)) = some (1, 0, 0, 0) := by decide
theorem test_get_red_alliance :
    results (exec .hbGetRedAlliance (held 0xA55AC33C 0x9669F00F)) = some (0, 0, 0, 0) ∧
    results (exec .hbGetRedAlliance (held 0x12345678 0x9ABCDEF0)) = some (0, 0, 0, 0) ∧
    results (exec .hbGetRedAlliance (held 0xFFFFFFFF 0xFFFFFFFF)) = some (1, 0, 0, 0) := by decide
theorem test_get_replay_number :
    results (exec .hbGetReplayNumber (held 0xA55AC33C 0x9669F00F)) = some (26, 0, 0, 0) ∧
    results (exec .hbGetReplayNumber (held 0x12345678 0x9ABCDEF0)) = some (47, 0, 0, 0) ∧
    results (exec .hbGetReplayNumber (held 0xFFFFFFFF 0xFFFFFFFF)) = some (63, 0, 0, 0) := by decide
theorem test_get_match_number :
    results (exec .hbGetMatchNumber (held 0xA55AC33C 0x9669F00F)) = some (496, 0, 0, 0) ∧
    results (exec .hbGetMatchNumber (held 0x12345678 0x9ABCDEF0)) = some (222, 0, 0, 0) ∧
    results (exec .hbGetMatchNumber (held 0xFFFFFFFF 0xFFFFFFFF)) = some (1023, 0, 0, 0) := by decide
theorem test_get_match_time_seconds :
    results (exec .hbGetMatchTimeSeconds (held 0xA55AC33C 0x9669F00F)) = some (15, 0, 0, 0) ∧
    results (exec .hbGetMatchTimeSeconds (held 0x12345678 0x9ABCDEF0)) = some (240, 0, 0, 0) ∧
    results (exec .hbGetMatchTimeSeconds (held 0xFFFFFFFF 0xFFFFFFFF)) = some (255, 0, 0, 0) := by decide
theorem test_set_hour :
    buffer (exec (.hbSetHour 0x1F) small) = some (0xF8000000#32, 0x00000000#32) ∧
    buffer (exec (.hbSetHour 0) (held 0xFFFFFFFF 0xFFFFFFFF)) = some (0x07FFFFFF#32, 0xFFFFFFFF#32) := by decide
theorem test_set_minute :
    buffer (exec (.hbSetMinute 0x3F) small) = some (0x07E00000#32, 0x00000000#32) ∧
    buffer (exec (.hbSetMinute 0) (held 0xFFFFFFFF 0xFFFFFFFF)) = some (0xF81FFFFF#32, 0xFFFFFFFF#32) := by decide
theorem test_set_second :
    buffer (exec (.hbSetSecond 0x3F) small) = some (0x001F8000#32, 0x00000000#32) ∧
    buffer (exec (.hbSetSecond 0) (held 0xFFFFFFFF 0xFFFFFFFF)) = some (0xFFE07FFF#32, 0xFFFFFFFF#32) := by decide
theorem test_set_day :
    buffer (exec (.hbSetDay 0x1F) small) = some (0x00007C00#32, 0x00000000#32) ∧
    buffer (exec (.hbSetDay 0) (held 0xFFFFFFFF 0xFFFFFFFF)) = some (0xFFFF83FF#32, 0xFFFFFFFF#32) := by decide
theorem test_set_month :
    buffer (exec (.hbSetMonth 0xF) small) = some (0x000003C0#32, 0x00000000#32) ∧
    buffer (exec (.hbSetMonth 0) (held 0xFFFFFFFF 0xFFFFFFFF)) = some (0xFFFFFC3F#32, 0xFFFFFFFF#32) := by decide
theorem test_set_year :
    buffer (exec (.hbSetYear 0x3F) small) = some (0x0000003F#32, 0x00000000#32) ∧
    buffer (exec (.hbSetYear 0) (held 0xFFFFFFFF 0xFFFFFFFF)) = some (0xFFFFFFC0#32, 0xFFFFFFFF#32) := by decide
theorem test_set_tournament_type :
    buffer (exec (.hbSetTournamentType 0x7) small) = some (0x00000000#32, 0xE0000000#32) ∧
    buffer (exec (.hbSetTournamentType 0) (held 0xFFFFFFFF 0xFFFFFFFF)) = some (0xFFFFFFFF#32, 0x1FFFFFFF#32) := by decide
theorem test_set_system_watchdog :
    buffer (exec (.hbSetSystemWatchdog 0x1) small) = some (0x00000000#32, 0x10000000#32) ∧
    buffer (exec (.hbSetSystemWatchdog 0) (held 0xFFFFFFFF 0xFFFFFFFF)) = some (0xFFFFFFFF#32, 0xEFFFFFFF#32) := by decide
theorem test_set_test_mode :
    buffer (exec (.hbSetTestMode 0x1) small) = some (0x00000000#32, 0x08000000#32) ∧
    buffer (exec (.hbSetTestMode 0) (held 0xFFFFFFFF 0xFFFFFFFF)) = some (0xFFFFFFFF#32, 0xF7FFFFFF#32) := by decide
theorem test_set_autonomous :
    buffer (exec (.hbSetAutonomous 0x1) small) = some (0x00000000#32, 0x04000000#32) ∧
    buffer (exec (.hbSetAutonomous 0) (held 0xFFFFFFFF 0xFFFFFFFF)) = some (0xFFFFFFFF#32, 0xFBFFFFFF#32) := by decide
theorem test_set_enabled :
    buffer (exec (.hbSetEnabled 0x1) small) = some (0x00000000#32, 0x02000000#32) ∧
    buffer (exec (.hbSetEnabled 0) (held 0xFFFFFFFF 0xFFFFFFFF)) = some (0xFFFFFFFF#32, 0xFDFFFFFF#32) := by decide
theorem test_set_red_alliance :
    buffer (exec (.hbSetRedAlliance 0x1) small) = some (0x00000000#32, 0x01000000#32) ∧
    buffer (exec (.hbSetRedAlliance 0) (held 0xFFFFFFFF 0xFFFFFFFF)) = some (0xFFFFFFFF#32, 0xFEFFFFFF#32) := by decide
theorem test_set_replay_number :
    buffer (exec (.hbSetReplayNumber 0x3F) small) = some (0x00000000#32, 0x00FC0000#32) ∧
    buffer (exec (.hbSetReplayNumber 0) (held 0xFFFFFFFF 0xFFFFFFFF)) = some (0xFFFFFFFF#32, 0xFF03FFFF#32) := by decide
theorem test_set_match_number :
    buffer (exec (.hbSetMatchNumber 0x3FF) small) = some (0x00000000#32, 0x0003FF00#32) ∧
    buffer (exec (.hbSetMatchNumber 0) (held 0xFFFFFFFF 0xFFFFFFFF)) = some (0xFFFFFFFF#32, 0xFFFC00FF#32) := by decide
theorem test_set_match_time_seconds :
    buffer (exec (.hbSetMatchTimeSeconds 0xFF) small) = some (0x00000000#32, 0x000000FF#32) ∧
    buffer (exec (.hbSetMatchTimeSeconds 0) (held 0xFFFFFFFF 0xFFFFFFFF)) = some (0xFFFFFFFF#32, 0xFFFFFF00#32) := by decide

/-- V48: an over-wide value is cut silently, the neighbouring field stays. -/
theorem test_set_match_number_truncates :
    buffer (exec (.hbSetMatchNumber 0x7FF) small) = some (0#32, 0x0003FF00#32) ∧
    statusOf (exec (.hbSetMatchNumber 0x7FF) small) = some .ok := by decide
/-- V49: only the field's bits of a mixed buffer change. -/
theorem test_set_second_isolated : buffer (exec (.hbSetSecond 0) (held 0xA55AC33C 0x9669F00F)) =
    some (0xA540433C#32, 0x9669F00F#32) := by decide
theorem test_hb_load : buffer (exec (.hbLoad 0xA55AC33C 0x9669F00F) small) = some (0xA55AC33C#32, 0x9669F00F#32) := by decide
theorem test_hb_read : results (exec .hbRead (held 0xA55AC33C 0x9669F00F)) = some (0xA55AC33C, 0x9669F00F, 0, 0) := by decide
theorem test_hb_clear : buffer (exec .hbClear (held 0xA55AC33C 0x9669F00F)) = some (0#32, 0#32) := by decide

/-! ### Unit D (V60 to V78) -/

/-- V63, V72: the duplicate test comes before the capacity test, and neither changes the table. -/
theorem test_reg_handler :
    statusOf (exec (.regHandler 0x0A080041 9) routed) = some .dup ∧
    statusOf (exec (.regHandler 1 3) (small.withDataTable [⟨1, 1⟩, ⟨2, 2⟩])) = some .dup ∧
    statusOf (exec (.regHandler 3 3) (small.withDataTable [⟨1, 1⟩, ⟨2, 2⟩])) = some .full := by decide
theorem test_reg_handler_stores :
    exec (.regHandler 1 8) routed =
      .next ((routed.withDataTable [⟨1, 8⟩, ⟨0x0A080041#32, 7⟩]).respond ⟨.ok, 0, 0, 0, 0⟩) := by rfl
/-- V64: a key of `DATA_TABLE` is no duplicate in `RTR_TABLE`. -/
theorem test_reg_rtr_handler :
    exec (.regRtrHandler 0x0A080041 9) routed =
      .next ((routed.withRtrTable [⟨0x0A080041#32, 9⟩]).respond ⟨.ok, 0, 0, 0, 0⟩) := by rfl
/-- V77: a later registration replaces the earlier. -/
theorem test_reg_unmatched_overwrites :
    exec (.regUnmatched 4) (small.withUnm ⟨true, 3⟩) = .next ((small.withUnm ⟨true, 4⟩).respond ⟨.ok, 0, 0, 0, 0⟩) := by rfl
theorem test_reg_timeout :
    exec (.regTimeout 5) small = .next ((small.withTmo ⟨true, 5⟩).respond ⟨.ok, 0, 0, 0, 0⟩) := by rfl
/-- V72: duplicates are appended, up to the capacity. -/
theorem test_reg_iteration :
    exec (.regIteration 5) (small.withIter [5]) = .next ((small.withIter [5, 5]).respond ⟨.ok, 0, 0, 0, 0⟩) := by rfl
theorem test_reg_iteration_full : statusOf (exec (.regIteration 6) (small.withIter [5, 5])) = some .full := by decide

/-- V60: in drain mode one `STEP` handles both queued frames, then runs the iteration callback once. -/
theorem test_step_drains :
    traceOf (exec .step (((routedDrain.withRx [gotX, gotX]).withPend [true, false]).withCb
      [.answer quietly, .answer quietly, .answer quietly])) =
    [.recv (some frameX), .invoke ⟨.data, 7, some frameX⟩ (.ret none), .pending true,
     .recv (some frameX), .invoke ⟨.data, 7, some frameX⟩ (.ret none), .pending false,
     .invoke ⟨.iter, 11, none⟩ (.ret none)] := by decide
/-- V62: timeout, the timeout-handler's frame sent or not as `FALLBACK_SENDS` says, iteration callbacks in order. -/
theorem test_step_timeout :
    let s := (((small.withTmo ⟨true, 5⟩).withIter [11, 12]).withRx [gotNone]).withCb
      [.answer replying, .answer quietly, .answer replying]
    traceOf (exec .step s) =
      [.recv none, .invoke ⟨.timeout, 5, none⟩ (.ret (some reply)), .send reply, .invoke ⟨.iter, 11, none⟩ (.ret none),
       .invoke ⟨.iter, 12, none⟩ (.ret (some reply)), .send reply] ∧
    traceOf (exec .step { s with cfg := ⟨false, 5, none, none, none, false⟩ }) =
      [.recv none, .invoke ⟨.timeout, 5, none⟩ (.ret (some reply)), .invoke ⟨.iter, 11, none⟩ (.ret none),
       .invoke ⟨.iter, 12, none⟩ (.ret (some reply)), .send reply] := by decide
/-- V68: a failing callback ends the `STEP` in `FAULTED`; the next frame stays queued. -/
theorem test_callback_failure :
    step ((calling.withRx [gotX]).withCb [.answer failing]) =
      .next ((((routed.withPhase .faulted).withCur frameX).withRx [gotX]).log
        (.invoke ⟨.data, 7, some frameX⟩ .fault) |>.respond ⟨.faulted, 0, 0, 0, 0⟩) := by rfl
/-- V69: a `STEP` from inside a callback answers `BUSY`; the invocation goes on. -/
theorem test_nested_step_busy :
    step (calling.withCb [.command 0xC800000000000000000000000000000000#136]) =
      .next (calling.respond ⟨.busy, 0, 0, 0, 0⟩) := by rfl
/-- V78: an illegal opcode answers `BADOP`, in `FAULTED` too. -/
theorem test_badop_in_faulted :
    step (broken.withCmds [0x8FDEADBEEF000000000000000000000000#136]) = .next (broken.respond ⟨.badop, 0, 0, 0, 0⟩) := by rfl
/-- R340, R345: reset during a `STEP` samples the configuration inputs; the abandoned invocation's answer is now a late one. -/
theorem test_reset_in_callback :
    step { calling.withCb [.command 0#136, .answer quietly, .answer replying] with resetReq := true } =
      .next { small with
        cfg := ⟨true, 6, some 2, some 2, some 2, true⟩
        late := ⟨0, 0, 1⟩
        cb := [.command 0#136, .answer quietly, .answer replying] } := by rfl
/-- R340: a late answer to an abandoned `receive` and the rest of an abandoned invocation are ignored: the next answers count. -/
theorem test_late_answers_ignored :
    traceOf (exec .step (((routed.withLate ⟨1, 0, 1⟩).withRx [gotNone, gotX]).withCb
      [.command 0#136, .answer failing, .answer quietly, .answer replying])) =
    [.recv (some frameX), .invoke ⟨.data, 7, some frameX⟩ (.ret none), .invoke ⟨.iter, 11, none⟩ (.ret (some reply)),
     .send reply] := by decide
/-- The first step after reset runs the placed word. -/
theorem test_first_step_after_reset :
    step (State.reset.withFetchWord 136 0x4200000007000000000000000000000000) = .next (State.reset.respond ⟨.ok, 7, 0, 0, 0⟩) := by
  rfl

/-! ### A case for the hypotheses of every statement that has some -/

/-- The block waiting for the transport in drain mode. -/
def draining : State :=
  ((routedDrain.withPhase .dispatch).withCur frameX).withAwait .hasPending

theorem good_small : Good small := ⟨by decide, by decide, by decide, trivial⟩
theorem good_calling : Good calling := ⟨by decide, by decide, by decide, rfl, by decide⟩
theorem good_draining : Good draining := ⟨by decide, by decide, by decide, rfl⟩

theorem witness_ignoredBitsHaveNoEffect :
    decode 0x00FFFFF8FF000000000000000000000001#136 = .ok (.xs ⟨7, 0, 0xFF#8⟩) := by rfl

theorem witness_unlistedOpcodeAnswersBadop :
    (listedOpcodes.contains 0x8F#8 = false ∧ listedOpcodes.contains 0xAF#8 = false ∧ listedOpcodes.contains 0x93#8 = false ∧
      listedOpcodes.contains 0x9F#8 = false ∧ listedOpcodes.contains 0xC5#8 = false ∧ listedOpcodes.contains 0xC7#8 = false ∧
      listedOpcodes.contains 0xC9#8 = false ∧ listedOpcodes.contains 0xFF#8 = false ∧ listedOpcodes.contains 0x04#8 = false ∧
      listedOpcodes.contains 0x3F#8 = false ∧ listedOpcodes.contains 0x43#8 = false ∧ listedOpcodes.contains 0x7F#8 = false ∧
      listedOpcodes.contains 0xB0#8 = false ∧ listedOpcodes.contains 0xBF#8 = false) ∧
    (let w := 0xC900000000000000000000000000000000#136
     let s := small.withCmds [w]
     listedOpcodes.contains (w.extractLsb' 128 8) = false ∧ s.resetReq = false ∧ s.await = .none ∧ s.cmds = w :: []) ∧
    (let w := 0x4300000000000000000000000000000000#136
     let s := calling.withCb [.command w]
     listedOpcodes.contains (w.extractLsb' 128 8) = false ∧ s.resetReq = false ∧
       s.await = .callback ⟨.data, 7, some frameX⟩ ∧ s.cbDue = .command w :: []) := by decide

theorem witness_stepRunsAcceptedCommand :
    (let s := small.withCmds [0x9200000000000000000000000000000000#136]
     s.resetReq = false ∧ s.await = .none ∧ s.cmds = 0x9200000000000000000000000000000000#136 :: [] ∧
       decode 0x9200000000000000000000000000000000#136 = .ok .hbRead) ∧
    (let s := calling.withCb [.command 0x9200000000000000000000000000000000#136]
     s.resetReq = false ∧ s.await = .callback ⟨.data, 7, some frameX⟩ ∧
       s.cbDue = .command 0x9200000000000000000000000000000000#136 :: []) :=
  ⟨⟨rfl, rfl, rfl, rfl⟩, ⟨rfl, rfl, rfl⟩⟩

/-- The bit numbers 0 and 7 are under 8; each is a bit of the field in one case and not in another. -/
theorem witness_isWritesField :
    (let p := SingleParam.mk 0 0 0x01#8
     ((0 : Fin 8) = p.byteIndex ∧ p.lsb.toNat ≤ 0 ∧ p.widthMask.getLsbD (0 - p.lsb.toNat) = true) ∧ (0 : Nat) < 8) ∧
    (let p := SingleParam.mk 7 7 0xFF#8
     ((7 : Fin 8) = p.byteIndex ∧ p.lsb.toNat ≤ 7 ∧ p.widthMask.getLsbD (7 - p.lsb.toNat) = true) ∧ (7 : Nat) < 8) := by decide

theorem witness_ipWritesTwoFields :
    let p := PairParam.mk ⟨0, 0, 0xFF#8⟩ ⟨0, 0, 0x0F#8⟩ 4
    (p.lo.lsb.toNat ≤ 0 ∧ p.lo.widthMask.getLsbD (0 - p.lo.lsb.toNat) = true) ∧
    (p.lo.widthMask.getLsbD (7 - p.lo.lsb.toNat) = false ∧ p.hi.widthMask.getLsbD (7 - p.hi.lsb.toNat) = true) := by decide

theorem witness_singleFieldLaws :
    (SingleParam.mk 0 3 0x1F#8).fits 5 = true ∧ (SingleParam.mk 7 0 0xFF#8).fits 8 = true ∧
    (SingleParam.mk 2 7 0x00#8).fits 0 = true ∧
    ¬ ((2 : Fin 8) = 0 ∧ (3 : Nat) ≤ 3 ∧ 3 < 3 + 5) := by decide

theorem witness_pairFieldLaws :
    (PairParam.mk ⟨5, 0, 0x03#8⟩ ⟨6, 0, 0xFF#8⟩ 8).fits 2 = true ∧
    (PairParam.mk ⟨3, 4, 0x0F#8⟩ ⟨3, 0, 0x0F#8⟩ 4).fits 4 = true ∧
    (PairParam.mk ⟨3, 7, 0x00#8⟩ ⟨3, 0, 0x00#8⟩ 0).fits 0 = true := by decide

theorem witness_settersWriteTheirRange :
    fieldLow .hour ≤ 63 ∧ 63 < fieldLow .hour + fieldWidth .hour ∧ fieldLow .matchTimeSeconds ≤ 0 ∧ (63 : Nat) < 64 := by decide

theorem witness_heartbeatFieldLaws : Field.hour ≠ Field.minute ∧ Field.replayNumber ≠ Field.matchNumber := by decide

/-- The fifteen fields, in an order of their own. -/
def everyField : List Field :=
  [.minute, .hour, .second, .day, .month, .year, .tournamentType, .systemWatchdog, .testMode, .autonomous, .enabled,
   .redAlliance, .replayNumber, .matchTimeSeconds, .matchNumber]

theorem witness_bufferRebuiltFromFields : ∀ f : Field, f ∈ everyField := by
  intro f
  cases f <;> decide

theorem witness_codecCommandsAlwaysOk :
    Instr.unit (.xs ⟨0, 0, 0⟩) ≠ .dispatcher ∧ Instr.unit (.idDecode 0) ≠ .dispatcher ∧ Instr.unit .hbRead ≠ .dispatcher := by
  decide

theorem witness_identifierAndDispatcherIgnoreBuffer :
    (Instr.unit (.idFromRaw 3) = .identifier ∧ exec (.idFromRaw 3) small = .next (small.respond ⟨.ok, 3, 0, 0, 0⟩)) ∧
    (Instr.unit .step = .dispatcher ∧ exec .step calling = .next (calling.respond ⟨.busy, 0, 0, 0, 0⟩)) :=
  ⟨⟨rfl, rfl⟩, ⟨rfl, rfl⟩⟩

theorem witness_guardRefuses :
    Instr.unit .step = .dispatcher ∧ broken.phase = .faulted ∧ calling.phase ≠ .faulted ∧ calling.phase ≠ .idle := by decide

theorem witness_regHandlerRegisters :
    let full := small.withDataTable [⟨1, 1⟩, ⟨2, 2⟩]
    (broken.phase = .faulted ∧ calling.phase ≠ .faulted ∧ calling.phase ≠ .idle) ∧
    (routed.phase = .idle ∧ lookup routed.dataTable 0x0A080041#32 ≠ none) ∧
    (full.phase = .idle ∧ lookup full.dataTable 1 ≠ none ∧ full.cfg.capData = some full.dataTable.length) ∧
    (full.phase = .idle ∧ lookup full.dataTable 3 = none ∧ full.cfg.capData = some full.dataTable.length) ∧
    (small.phase = .idle ∧ lookup small.dataTable 3 = none ∧ small.cfg.capData ≠ some small.dataTable.length) := by decide

theorem witness_regRtrHandlerRegisters :
    let full := small.withRtrTable [⟨1, 1⟩, ⟨2, 2⟩]
    (broken.phase = .faulted ∧ calling.phase ≠ .faulted ∧ calling.phase ≠ .idle) ∧
    (full.phase = .idle ∧ lookup full.rtrTable 1 ≠ none) ∧
    (full.phase = .idle ∧ lookup full.rtrTable 3 = none ∧ full.cfg.capRtr = some full.rtrTable.length) ∧
    (small.phase = .idle ∧ lookup small.rtrTable 3 = none ∧ small.cfg.capRtr ≠ some small.rtrTable.length) := by decide

theorem witness_regSlotsOverwrite :
    (broken.phase = .faulted ∧ calling.phase ≠ .faulted ∧ calling.phase ≠ .idle) ∧
    (small.withUnm ⟨true, 3⟩).phase = .idle ∧ (small.withTmo ⟨true, 3⟩).phase = .idle := by decide

theorem witness_regIterationAppends :
    (broken.phase = .faulted ∧ calling.phase ≠ .faulted ∧ calling.phase ≠ .idle) ∧
    (small.phase = .idle ∧ small.cfg.capIter ≠ some small.iter.length) ∧
    (let full := small.withIter [5, 5]
     full.phase = .idle ∧ full.cfg.capIter = some full.iter.length) := by decide

theorem witness_listRegistrationAppendsInOrder :
    small.phase = .idle ∧ ∀ c : Nat, small.cfg.capIter = some c → small.iter.length + [5, (6 : U32)].length ≤ c := by
  refine ⟨rfl, fun c h => ?_⟩
  cases h
  decide

/-- For each piece of routing state a command that changes it. -/
theorem witness_onlyRegistrationsWriteRouting :
    (∃ t, exec (.regHandler 1 4) small = .next t ∧ t.dataTable ≠ small.dataTable) ∧
    (∃ t, exec (.regRtrHandler 1 4) small = .next t ∧ t.rtrTable ≠ small.rtrTable) ∧
    (∃ t, exec (.regUnmatched 4) small = .next t ∧ t.unm ≠ small.unm) ∧
    (∃ t, exec (.regTimeout 4) small = .next t ∧ t.tmo ≠ small.tmo) ∧
    (∃ t, exec (.regIteration 4) small = .next t ∧ t.iter ≠ small.iter) :=
  ⟨⟨_, rfl, by decide⟩, ⟨_, rfl, by decide⟩, ⟨_, rfl, by decide⟩, ⟨_, rfl, by decide⟩, ⟨_, rfl, by decide⟩⟩

theorem witness_frameRouting :
    (frameX.isRemoteRequest = false ∧ lookup routed.dataTable frameX.identifier = some 7) ∧
    (let remote : CanFrame := ⟨0x0A080041#32, true, true, 0, 0⟩
     let s := routed.withRtrTable [⟨0x0A080041#32, 9⟩]
     remote.isRemoteRequest = true ∧ lookup s.rtrTable remote.identifier = some 9) ∧
    (if reply.isRemoteRequest then lookup routed.rtrTable reply.identifier else lookup routed.dataTable reply.identifier) =
      none := by decide

theorem witness_stepWaitsForTransport :
    let t := (small.withPhase .wait).withAwait (.receive 5)
    (small.phase = .idle ∧ small.rxDue = []) ∧ t.await = .receive small.cfg.timeout ∧ t.rxDue = [] ∧ t.resetReq = false := by decide

theorem witness_stepOnTimeout :
    let s := ((routed.withTmo ⟨true, 5⟩).withRx [gotNone, gotX]).withCb [.answer replying, .answer quietly, .answer failing]
    s.phase = .idle ∧ s.rxDue = gotNone :: [gotX] ∧ gotNone.hasFrame = false ∧
    s.cbDue = [replying, quietly].map CbEvent.answer ++ [.answer failing] ∧
    [replying, quietly].map CbResponse.meaning = [some reply, none].map Answer.ret ∧
    [replying, quietly].length = (timeoutCalls s ++ iterationCalls s).length := by decide

theorem witness_stepOnOneFrame :
    let s := (routed.withRx [gotX, gotX]).withCb [.answer replying, .answer quietly]
    s.phase = .idle ∧ s.cfg.drainQueue = false ∧ s.rxDue = gotX :: [gotX] ∧ gotX.hasFrame = true ∧
    s.cbDue = [replying, quietly].map CbEvent.answer ++ [] ∧
    [replying, quietly].map CbResponse.meaning = [some reply, none].map Answer.ret ∧
    [replying, quietly].length = (frameCalls s gotX.frame ++ iterationCalls s).length := by decide

theorem witness_stepDrainsQueue :
    let s := ((routedDrain.withRx [gotX, gotX]).withPend [true, false]).withCb
      [.answer replying, .answer quietly, .answer quietly]
    s.phase = .idle ∧ s.cfg.drainQueue = true ∧
    s.rxDue = (frameX :: [frameX]).map (fun g => (⟨true, g⟩ : RecvResponse)) ++ [] ∧
    s.pendDue = [frameX].map (fun _ => true) ++ false :: [] ∧
    (∀ g ∈ frameX :: [frameX], frameCalls s g ≠ []) ∧
    s.cbDue = [replying, quietly, quietly].map CbEvent.answer ++ [] ∧
    [replying, quietly, quietly].map CbResponse.meaning = ([some reply, none] ++ [none]).map Answer.ret ∧
    [some reply, none].length = (frameX :: [frameX]).length ∧ [(none : Option CanFrame)].length = s.iter.length := by decide

/-- The pseudocode runs to its end in success and in failure. -/
theorem witness_stepAgreesWithPseudocode :
    (let s := (routed.withRx [gotX]).withCb [.answer replying, .answer quietly]
     s.phase = .idle ∧ s.await = .none ∧ ∃ t, bigStep s = .going t ∧ t.phase = .idle) ∧
    (let s := (routed.withRx [gotX]).withCb [.answer failing]
     s.phase = .idle ∧ s.await = .none ∧ ∃ t, bigStep s = .failed t ∧ t.phase = .faulted) :=
  ⟨⟨rfl, rfl, _, rfl, rfl⟩, ⟨rfl, rfl, _, rfl, rfl⟩⟩

theorem witness_waitingStepGoesOn :
    (routed.phase = .idle ∧ routed.resetReq = false) ∧
    (∃ w, exec .step routed = .next w ∧ w.await = .receive 5) ∧
    (let s := { routedDrain.withRx [gotX] with cb := [.answer quietly] }
     ∃ w, exec .step s = .next w ∧ w.await = .hasPending) ∧
    (∃ w, exec .step (routed.withRx [gotX]) = .next w ∧ w.await = .callback ⟨.data, 7, some frameX⟩ ∧
      ∀ (c : PortWord) (rest : List CbEvent), (w.withCb (w.cb ++ [.answer quietly])).cbDue ≠ .command c :: rest) :=
  ⟨⟨rfl, rfl⟩, ⟨_, rfl, rfl⟩, ⟨_, rfl, rfl⟩, ⟨_, rfl, rfl, fun _ _ h => by cases h⟩⟩

theorem witness_resumedStepKeepsState :
    let s := calling.withCb [.answer quietly]
    Good s ∧ s.resetReq = false ∧ stepInProgress s ∧
    (∀ (req : CbRequest) (w : PortWord) (rest : List CbEvent), s.await = .callback req → s.cbDue ≠ .command w :: rest) ∧
    (∃ t, step s = .next t ∧ t.phase = .iterate) ∧ s.unm.valid = false ∧ s.tmo.valid = false := by
  refine ⟨⟨by decide, by decide, by decide, rfl, by decide⟩, rfl, ⟨by decide, by decide⟩, ?_, ⟨_, rfl, rfl⟩, rfl, rfl⟩
  intro _ _ _ _ h
  cases h

theorem witness_callbackEntryPresentsRequest :
    (let s := routed.withRx [gotX]
     s.phase = .idle ∧ s.rxDue = gotX :: [] ∧ s.cbDue = [] ∧ gotX.hasFrame = true ∧ route s gotX.frame = some (.data, 7)) ∧
    (let s := ((routed.withTmo ⟨true, 5⟩).withRx [gotNone]).withCb [.command 0#136]
     s.phase = .idle ∧ s.rxDue = gotNone :: [] ∧ s.cbDue = .command 0#136 :: [] ∧ gotNone.hasFrame = false ∧ s.tmo.valid = true) ∧
    (let s := routed.withRx [gotNone]
     s.rxDue = gotNone :: [] ∧ s.tmo.valid = false ∧ s.iter = 11 :: []) := by decide

theorem witness_callbackReturnSends :
    let s := calling.withCb [.answer replying]
    Good s ∧ s.resetReq = false ∧ s.await = .callback ⟨.data, 7, some frameX⟩ ∧ s.cbDue = .answer replying :: [] ∧
      replying.fault = false :=
  ⟨⟨by decide, by decide, by decide, rfl, by decide⟩, rfl, rfl, rfl, rfl⟩

theorem witness_callbackFailureEndsStep :
    let s := calling.withCb [.answer failing]
    s.resetReq = false ∧ s.await = .callback ⟨.data, 7, some frameX⟩ ∧ s.cbDue = .answer failing :: [] ∧ failing.fault = true := by
  decide

theorem witness_faultedIsSticky :
    let s := broken.withCmds [0xC800000000000000000000000000000000#136]
    s.phase = .faulted ∧ s.await = .none ∧ s.resetReq = false ∧ step s = .next (broken.respond ⟨.faulted, 0, 0, 0, 0⟩) :=
  ⟨rfl, rfl, rfl, rfl⟩

theorem witness_phaseFollowsTransitions :
    (Good draining ∧ Good calling) ∧ (∃ t, advance (draining.withPend [true]) = some t ∧ t.phase = .dispatch) ∧
    (∃ t, advance (calling.withCb [.answer quietly]) = some t ∧ t.phase = .iterate) :=
  ⟨⟨good_draining, good_calling⟩, ⟨_, rfl, rfl⟩, ⟨_, rfl, rfl⟩⟩

/-- A step with a `Send`, and one with no event. -/
theorem witness_sendsFollowTheirInvocation :
    (∃ t, step (calling.withCb [.answer replying]) = .next t ∧ sendCount t.trace = 1 ∧ invokeCount t.trace = 1) ∧
    (∃ t, step small = .next t ∧ t.trace = []) :=
  ⟨⟨_, rfl, rfl, rfl⟩, ⟨_, rfl, rfl⟩⟩

/-- `routedDrain` while it waits for its first frame. -/
def waiting : State :=
  (routedDrain.withPhase .wait).withAwait (.receive 5)

/-- What comes in then: the frame, no further one, and the callback agent's events, the first a command of its own. -/
def waitingFed : State :=
  waiting.feed [gotX] [false] [.command 0xC800000000000000000000000000000000#136, .answer quietly, .answer quietly]

/-- The handler of `X` is being invoked, and has issued its command or not. -/
def invoking (cb : List CbEvent) (rsps : List Rsp) : State :=
  { routedDrain with phase := .dispatch, cur := frameX, await := .callback ⟨.data, 7, some frameX⟩, pend := [false], cb := cb,
                     rsps := rsps, trace := [.recv (some frameX)] }

/-- A whole `STEP` in drain mode whose frame comes late and whose first callback issues a command of its own; and one in
non-drain mode. -/
theorem witness_receivesPerStep :
    (routedDrain.phase = .idle ∧ ∃ t, OneStep routedDrain t ∧ t.phase = .idle ∧ t.trace.length = 4) ∧
    (routed.cfg.drainQueue = false ∧ routed.phase = .idle ∧ ∃ t, OneStep routed t ∧ t.phase = .idle) := by
  constructor
  · have h0 : OneStep routedDrain waiting := .begun rfl
    have h1 : OneStep routedDrain waitingFed := h0.fed _ _ _
    have h2 := h1.went (u := invoking [.command 0xC800000000000000000000000000000000#136, .answer quietly, .answer quietly] [])
      ⟨by decide, by decide⟩ rfl rfl
    have h3 := h2.went (u := invoking [.answer quietly, .answer quietly] [⟨.busy, 0, 0, 0, 0⟩])
      ⟨by decide, by decide⟩ rfl rfl
    exact ⟨rfl, _, h3.went ⟨by decide, by decide⟩ rfl rfl, rfl, rfl⟩
  · have h0 := OneStep.begun (s := routed) (t := (routed.withPhase .wait).withAwait (.receive 5)) rfl
    exact ⟨rfl, rfl, _, (h0.fed [gotNone] [] [.answer quietly]).went ⟨by decide, by decide⟩ rfl rfl, rfl⟩

theorem witness_invalidSlotsAreNotRead :
    small.unm.valid = false ∧ small.tmo.valid = false ∧ ∃ t, exec .step (small.withRx [gotNone]) = .next t ∧ t.phase = .idle :=
  ⟨rfl, rfl, _, rfl, rfl⟩

theorem witness_callbackAgentChangesOnlyBuffer :
    let s := calling.withCb [.command 0xC800000000000000000000000000000000#136]
    s.resetReq = false ∧ s.await = .callback ⟨.data, 7, some frameX⟩ ∧ stepInProgress s ∧
    s.cbDue = .command 0xC800000000000000000000000000000000#136 :: [] ∧ step s = .next (calling.respond ⟨.busy, 0, 0, 0, 0⟩) :=
  ⟨rfl, rfl, ⟨by decide, by decide⟩, rfl, rfl⟩

theorem witness_callbackAgentLoadsBuffer :
    let h := HBuf.ofWords 0x6B5DED18 0x56042A87
    (calling.withCb [.command (encode (.hbLoad h.word0 h.word1))]).cbDue = .command (encode (.hbLoad h.word0 h.word1)) :: [] := rfl

theorem witness_hostWaitsForStep :
    (Good calling ∧ calling.resetReq = false ∧ stepInProgress calling ∧ step calling = .next calling) ∧
    (small.resetReq = false ∧ small.await = .none ∧ small.cmds = []) :=
  ⟨⟨good_calling, rfl, ⟨by decide, by decide⟩, rfl⟩, ⟨rfl, rfl, rfl⟩⟩

theorem witness_resetAbandonsStep :
    (let s := { calling.withCb [.command 0#136] with resetReq := true }
     s.resetReq = true ∧ s.await = .callback ⟨.data, 7, some frameX⟩ ∧
       (s.withCb (s.cb ++ [.answer quietly, .answer replying])).cbDue =
         [0#136].map CbEvent.command ++ .answer quietly :: [.answer replying]) ∧
    (let s := { draining with resetReq := true }
     s.resetReq = true ∧ s.await = .hasPending ∧ (s.withPend (s.pend ++ [true, false])).pendDue = true :: [false] ∧
       (∀ req : CbRequest, s.await ≠ .callback req) ∧ ∀ tm : Nat, s.await ≠ .receive tm) ∧
    (let s := { (small.withPhase .wait).withAwait (.receive 5) with resetReq := true }
     s.resetReq = true ∧ s.await = .receive 5 ∧ (s.withRx (s.rx ++ [gotX, gotNone])).rxDue = gotX :: [gotNone] ∧
       s.await ≠ .hasPending) := by
  refine ⟨⟨rfl, rfl, rfl⟩, ⟨rfl, rfl, rfl, ?_, ?_⟩, rfl, rfl, rfl, by decide⟩
  · intro _ h
    cases h
  · intro _ h
    cases h

theorem witness_stepKeepsGood : Good small ∧ step (small.withCmds [0#136]) = .next (small.respond ⟨.ok, 0, 0, 0, 0⟩) :=
  ⟨good_small, rfl⟩

end Sys2Proof.Tests
end

section
/-! The accepted command word: from which port a step of the machine takes it, and what a step can do while a `STEP` is in
progress (00_scope.md R16, 10_state.md R30, R36, R41). -/

namespace Sys2Proof.Machine

/-- An accepted word that decodes runs its command (R112). -/
theorem runWord_of_decode {w : PortWord} {i : Instr} (hw : decode w = .ok i) (s : State) : runWord w s = exec i s := by
  simp [runWord, hw]

/-- An accepted word that does not decode is answered `BADOP` (R112). -/
theorem runWord_of_decode_error {w : PortWord} {e : DecodeError} (hw : decode w = .error e) (s : State) :
    runWord w s = .next (s.respond (refusedRsp .badop)) := by
  simp [runWord, hw, rejectWord, refuse]

/-- With no request outstanding the next word is the host's (R16, R36). -/
theorem step_of_hostWord {s : State} {w : PortWord} {rest : List PortWord} (hr : s.resetReq = false)
    (ha : s.await = .none) (hc : s.cmds = w :: rest) : step s = runWord w (s.withCmds rest) := by
  simp [step, nextAction, takeCommand, hr, ha, hc]

/-- While an invocation is outstanding the next word is the callback agent's (R41). -/
theorem step_of_callbackWord {s : State} {w : PortWord} {req : CbRequest} {rest : List CbEvent} (hr : s.resetReq = false)
    (ha : s.await = .callback req) (hc : s.cbDue = .command w :: rest) : step s = runWord w (s.takeCb rest) := by
  simp [step, nextAction, takeCommand, hr, ha, hc]

/-- With no request outstanding and no word of the host the machine does nothing (R36). -/
theorem step_of_quiet {s : State} (hr : s.resetReq = false) (ha : s.await = .none) (hc : s.cmds = []) :
    step s = .next s := by
  simp [step, nextAction, hr, ha, hc]

/-- All that a step can be while a request is outstanding: a word of the callback agent is run, or the `STEP` goes on (R41,
R244). -/
theorem step_cases_of_await {s : State} (hr : s.resetReq = false) (ha : s.await ≠ .none) :
    (∃ req w rest, s.await = .callback req ∧ s.cbDue = .command w :: rest ∧ step s = runWord w (s.takeCb rest)) ∨
      step s = .next (resume s) := by
  cases hw : s.await with
  | none => exact absurd hw ha
  | receive tm => exact .inr (by simp [step, nextAction, hr, hw])
  | hasPending => exact .inr (by simp [step, nextAction, hr, hw])
  | callback req =>
    cases hc : s.cbDue with
    | nil => exact .inr (by simp [step, nextAction, hr, hw, hc])
    | cons e rest =>
      cases e with
      | answer r => exact .inr (by simp [step, nextAction, hr, hw, hc])
      | command w => exact .inl ⟨req, w, rest, rfl, rfl, step_of_callbackWord hr hw hc⟩

/-- A `STEP` in progress has a request outstanding (R30, R244). -/
theorem await_ne_none_of_stepInProgress {s : State} (hf : awaitFits s) (hp : stepInProgress s) : s.await ≠ .none := by
  obtain ⟨notIdle, notFaulted⟩ := hp
  intro ha
  cases h : s.phase with
  | idle => exact notIdle h
  | faulted => exact notFaulted h
  | wait | dispatch | tmout | iterate => simp [awaitFits, h, ha] at hf

/-- A command of unit P, I or H writes at most the buffer, and answers (R130, R150, R170). -/
theorem exec_of_codec {i : Instr} (hi : i.unit ≠ .dispatcher) (s : State) :
    ∃ h r, exec i s = .next ((s.withHb h).respond r) := by
  cases i with
  | regHandler _ _ | regRtrHandler _ _ | regUnmatched _ | regTimeout _ | regIteration _ | step => exact absurd rfl hi
  | is _ _ | ip _ _ | hbClear | hbLoad _ _ | hbSetHour _ | hbSetMinute _ | hbSetSecond _ | hbSetDay _ | hbSetMonth _
  | hbSetYear _ | hbSetTournamentType _ | hbSetSystemWatchdog _ | hbSetTestMode _ | hbSetAutonomous _ | hbSetEnabled _
  | hbSetRedAlliance _ | hbSetReplayNumber _ | hbSetMatchNumber _ | hbSetMatchTimeSeconds _ => exact ⟨_, _, rfl⟩
  | xs _ | xp _ | idEncode _ _ _ _ | idDecode _ | idFromRaw _ | hbRead | hbGetHour | hbGetMinute | hbGetSecond | hbGetDay
  | hbGetMonth | hbGetYear | hbGetTournamentType | hbGetSystemWatchdog | hbGetTestMode | hbGetAutonomous | hbGetEnabled
  | hbGetRedAlliance | hbGetReplayNumber | hbGetMatchNumber | hbGetMatchTimeSeconds => exact ⟨s.hb, _, rfl⟩

/-- Every command of unit D stands behind the guard (R231). -/
theorem exec_of_dispatcher {i : Instr} (hi : i.unit = .dispatcher) (s : State) :
    ∃ body, exec i s = .next (guarded body s) := by
  cases i with
  | regHandler _ _ | regRtrHandler _ _ | regUnmatched _ | regTimeout _ | regIteration _ | step => exact ⟨_, rfl⟩
  | _ => cases hi

/-- While a `STEP` is in progress every command writes at most the buffer, and answers: those of unit D are refused (R41,
R231). -/
theorem exec_of_stepInProgress {s : State} (hp : stepInProgress s) (i : Instr) :
    ∃ h r, exec i s = .next ((s.withHb h).respond r) := by
  obtain ⟨notIdle, notFaulted⟩ := hp
  by_cases hi : i.unit = .dispatcher
  · obtain ⟨body, he⟩ := exec_of_dispatcher hi s
    rw [he, guarded_busy notIdle notFaulted]
    exact ⟨s.hb, refusedRsp .busy, rfl⟩
  · exact exec_of_codec hi s

/-- So does every accepted word: one that does not decode changes nothing but the response port (R41, R112). -/
theorem runWord_of_stepInProgress {s : State} (hp : stepInProgress s) (w : PortWord) :
    ∃ h r, runWord w s = .next ((s.withHb h).respond r) := by
  cases hw : decode w with
  | ok i =>
    rw [runWord_of_decode hw]
    exact exec_of_stepInProgress hp i
  | error e => exact ⟨s.hb, _, runWord_of_decode_error hw s⟩

/-- Taking an event of the callback agent neither ends nor begins a `STEP`. -/
@[simp] theorem stepInProgress_takeCb (s : State) (rest : List CbEvent) :
    stepInProgress (s.takeCb rest) ↔ stepInProgress s := Iff.rfl

/-- No step of a `STEP` in progress touches the host's words (R16). -/
theorem step_cmds_of_stepInProgress {s t : State} (hf : awaitFits s) (hr : s.resetReq = false) (hp : stepInProgress s)
    (h : step s = .next t) : t.cmds = s.cmds := by
  obtain ⟨req, w, rest, -, -, hs⟩ | hs := step_cases_of_await hr (await_ne_none_of_stepInProgress hf hp)
  · obtain ⟨buf, r, hw⟩ := runWord_of_stepInProgress ((stepInProgress_takeCb s rest).mpr hp) w
    rw [hs, hw] at h
    cases h
    rfl
  · rw [hs] at h
    cases h
    exact (resume_frame s).cmds

/-- Settles O6: either port's equation of `step`, then the word that decodes. -/
theorem stepRunsAcceptedCommand : Obligations.StepRunsAcceptedCommand :=
  ⟨fun s _ _ rest hr ha hc hw => (step_of_hostWord hr ha hc).trans (runWord_of_decode hw (s.withCmds rest)),
   fun s _ _ _ rest hr ha hc hw => (step_of_callbackWord hr ha hc).trans (runWord_of_decode hw (s.takeCb rest))⟩

/-- Settles O56: a `STEP` in progress leaves the host's words alone, whether it goes on or the callback agent issues a
command; with no request outstanding and no word the machine is quiet. -/
theorem hostWaitsForStep : Obligations.HostWaitsForStep :=
  ⟨fun _ _ good hr hp h => step_cmds_of_stepInProgress good.port hr hp h, fun _ hr ha hc => step_of_quiet hr ha hc⟩

end Sys2Proof.Machine
end

section
/-! The command word and the response word: one packing of five fields, read back (10_state.md R37, 30_encoding.md R90). -/

namespace Sys2Proof

/-- The five fields of a packed word, read back each at its place (R90). -/
theorem Cmd.extract_toWord (c : Cmd) :
    c.toWord.extractLsb' 128 8 = c.op ∧ c.toWord.extractLsb' 96 32 = c.a0 ∧ c.toWord.extractLsb' 64 32 = c.a1 ∧
      c.toWord.extractLsb' 32 32 = c.a2 ∧ c.toWord.extractLsb' 0 32 = c.a3 := by
  have h := Cmd.ofWord_toWord c
  exact ⟨congrArg Cmd.op h, congrArg Cmd.a0 h, congrArg Cmd.a1 h, congrArg Cmd.a2 h, congrArg Cmd.a3 h⟩

/-- Decoding a word built from fields reads those fields (R90). -/
theorem decode_encode_eq_decodeCmd (i : Instr) : decode (encode i) = decodeCmd (encodeCmd i) := by
  simp [decode, encode]

namespace Machine

/-- A response word is packed as a command word is (R90). -/
theorem Rsp.toWord_eq (r : Rsp) : r.toWord = Cmd.toWord ⟨r.status.code, r.r0, r.r1, r.r2, r.r3⟩ := rfl

/-- Settles O7: both words are one packing of five fields. -/
theorem commandPortWords : Obligations.CommandPortWords :=
  ⟨fun r => r.toWord_eq ▸ Cmd.extract_toWord ⟨r.status.code, r.r0, r.r1, r.r2, r.r3⟩,
   fun i => Cmd.extract_toWord (encodeCmd i), rfl, rfl, rfl, rfl, rfl, rfl⟩

end Machine

end Sys2Proof
end

section
/-! The state after reset (10_state.md R45). -/

namespace Sys2Proof.Machine

/-- Every byte of the zeroed buffer is zero (R45, R205). -/
@[simp] theorem HBuf.get_zero (i : Fin 8) : HBuf.zero.get i = 0x00#8 := by
  fin_cases i <;> rfl

/-- An empty table or list is within every capacity (R24, R25, R28). -/
@[simp] theorem withinCapacity_zero (cap : Option Nat) : withinCapacity cap 0 = true := by
  cases cap with
  | none => rfl
  | some c => exact decide_eq_true (Nat.zero_le c)

/-- An empty table is well formed under every capacity (R24, R25). -/
@[simp] theorem tableWf_nil (cap : Option Nat) : tableWf cap [] = true := by
  simp [tableWf, keysRise]

/-- Settles O57: each value is the one the reset state is written with. -/
theorem resetValues : Obligations.ResetValues :=
  ⟨HBuf.get_zero, rfl, rfl, rfl, rfl, rfl, rfl, rfl, rfl⟩

/-- Settles O59: tables and list are empty, and no request is outstanding in `IDLE`. -/
theorem goodAtReset : Obligations.GoodAtReset :=
  ⟨tableWf_nil _, tableWf_nil _, withinCapacity_zero _, trivial⟩

/-- So is the state after every later reset, whatever it was before (R340). -/
theorem good_applyReset (s : State) : Good (applyReset s) :=
  ⟨tableWf_nil _, tableWf_nil _, withinCapacity_zero _, trivial⟩

end Sys2Proof.Machine
end

section
/-! All that a command can do to the state, said once; with it which pieces of state each command writes (10_state.md R24 to
R28, 43_dispatcher.md R231 to R241). -/

namespace Sys2Proof.Machine

/-- What a command may leave behind: an answer and at most another buffer (units P, I, H, and every refusal); or, in `IDLE`
alone, what its own body does. -/
inductive CommandEffect (s : State) : Instr → State → Prop
  | answered (i : Instr) (h : HBuf) (r : Rsp) : CommandEffect s i ((s.withHb h).respond r)
  | regHandler (id hid : U32) (idle : s.phase = .idle) (fresh : lookup s.dataTable id = none)
      (room : atCapacity s.cfg.capData s.dataTable.length = false) :
      CommandEffect s (.regHandler id hid) ((s.withDataTable (insertEntry s.dataTable ⟨id, hid⟩)).respond okOnly)
  | regRtrHandler (id hid : U32) (idle : s.phase = .idle) (fresh : lookup s.rtrTable id = none)
      (room : atCapacity s.cfg.capRtr s.rtrTable.length = false) :
      CommandEffect s (.regRtrHandler id hid) ((s.withRtrTable (insertEntry s.rtrTable ⟨id, hid⟩)).respond okOnly)
  | regUnmatched (hid : U32) (idle : s.phase = .idle) :
      CommandEffect s (.regUnmatched hid) ((s.withUnm ⟨true, hid⟩).respond okOnly)
  | regTimeout (hid : U32) (idle : s.phase = .idle) :
      CommandEffect s (.regTimeout hid) ((s.withTmo ⟨true, hid⟩).respond okOnly)
  | regIteration (hid : U32) (idle : s.phase = .idle) (room : atCapacity s.cfg.capIter s.iter.length = false) :
      CommandEffect s (.regIteration hid) ((s.withIter (s.iter ++ [hid])).respond okOnly)
  | step (idle : s.phase = .idle) : CommandEffect s .step (resume (beginStep s))

/-- A refusal changes nothing but the response port (R92, R290). -/
theorem commandEffect_refuse (s : State) (i : Instr) (st : Status) : CommandEffect s i (refuse st s) :=
  .answered i s.hb (refusedRsp st)

/-- A guarded command is refused, or has the effect of its body in `IDLE` (R231). -/
theorem commandEffect_guarded {s : State} {i : Instr} {body : State → State}
    (h : s.phase = .idle → CommandEffect s i (body s)) : CommandEffect s i (guarded body s) := by
  obtain ⟨idle, e⟩ | ⟨-, e⟩ | ⟨-, -, e⟩ := guarded_cases body s
  · exact e ▸ h idle
  · exact e ▸ commandEffect_refuse s i .faulted
  · exact e ▸ commandEffect_refuse s i .busy

/-- A keyed registration is refused, or has the effect of storing a fresh entry for which there is room (R236, R238). -/
theorem commandEffect_registerKey {s : State} {i : Instr} {table : List Entry} {cap : Option Nat} {e : Entry}
    {store : List Entry → State}
    (h : lookup table e.key = none → atCapacity cap table.length = false →
      CommandEffect s i ((store (insertEntry table e)).respond okOnly)) :
    CommandEffect s i (registerKey table cap e store s) := by
  obtain ⟨-, eq⟩ | ⟨-, -, eq⟩ | ⟨fresh, room, eq⟩ := registerKey_cases table cap e store s
  · exact eq ▸ commandEffect_refuse s i .dup
  · exact eq ▸ commandEffect_refuse s i .full
  · exact eq ▸ h fresh room

/-- The body of `REG_ITERATION`: refused at the capacity, else the tag is appended (R241). -/
theorem appendIteration_cases (hid : U32) (s : State) :
    (atCapacity s.cfg.capIter s.iter.length = true ∧ appendIteration hid s = refuse .full s) ∨
      (atCapacity s.cfg.capIter s.iter.length = false ∧
        appendIteration hid s = (s.withIter (s.iter ++ [hid])).respond okOnly) := by
  cases h : atCapacity s.cfg.capIter s.iter.length <;> simp [appendIteration, h]

/-- Every command does one of these. -/
theorem exec_effect {i : Instr} {s t : State} (h : exec i s = .next t) : CommandEffect s i t := by
  by_cases hi : i.unit = .dispatcher
  · cases i with
    | regHandler id hid =>
      cases h
      exact commandEffect_guarded fun idle => commandEffect_registerKey fun fresh room => .regHandler id hid idle fresh room
    | regRtrHandler id hid =>
      cases h
      exact commandEffect_guarded fun idle => commandEffect_registerKey fun fresh room => .regRtrHandler id hid idle fresh room
    | regUnmatched hid =>
      cases h
      exact commandEffect_guarded fun idle => .regUnmatched hid idle
    | regTimeout hid =>
      cases h
      exact commandEffect_guarded fun idle => .regTimeout hid idle
    | regIteration hid =>
      cases h
      refine commandEffect_guarded fun idle => ?_
      obtain ⟨-, e⟩ | ⟨room, e⟩ := appendIteration_cases hid s
      · exact e ▸ commandEffect_refuse s _ .full
      · exact e ▸ .regIteration hid idle room
    | step =>
      cases h
      exact commandEffect_guarded fun idle => .step idle
    | _ => cases hi
  · obtain ⟨buf, r, e⟩ := exec_of_codec hi s
    rw [e] at h
    cases h
    exact .answered i buf r

/-- From its acceptance to its end or its next wait a `STEP` leaves all but its own registers and the ports alone (R245). -/
theorem sameBlock_resume_beginStep (s : State) : SameBlock s (resume (beginStep s)) :=
  ((sameBut_withPhase s _).trans (sameBut_withAwait _ _)).toSameBlock.trans (resume_frame _)

/-- The routing state is part of what `SameBlock` keeps. -/
theorem SameBlock.routing {s t : State} (h : SameBlock s t) : sameRouting s t :=
  ⟨h.dataTable, h.rtrTable, h.unm, h.tmo, h.iter⟩

/-- Settles O38: by the effects a command can have; a piece that changed names the registration it changed by. -/
theorem onlyRegistrationsWriteRouting : Obligations.OnlyRegistrationsWriteRouting := by
  intro i s t h
  cases exec_effect h with
  | answered | regHandler | regRtrHandler | regUnmatched | regTimeout | regIteration => simp
  | step =>
    have same := sameBlock_resume_beginStep s
    simp [same.dataTable, same.rtrTable, same.unm, same.tmo, same.iter, same.cfg]

end Sys2Proof.Machine
end

section
/-! The invariant: `phase` agrees with the outstanding request after every action of a `STEP`, every command keeps the tables in
form, and so every step of the machine keeps the invariant (10_state.md R24, R25, R28, R30, 43_dispatcher.md R244). -/

namespace Sys2Proof.Machine

/-! ### What `awaitFits` says, seen from the request -/

/-- In `IDLE` no request is outstanding (R30). -/
theorem await_none_of_idle {s : State} (hf : awaitFits s) (hp : s.phase = .idle) : s.await = .none := by
  cases h : s.await with
  | none => rfl
  | receive _ | hasPending | callback _ => simp [awaitFits, h, hp] at hf

/-- `has_pending` is asked in `DISPATCH`, in drain mode only (R247). -/
theorem dispatch_of_hasPending {s : State} (hf : awaitFits s) (ha : s.await = .hasPending) :
    s.phase = .dispatch ∧ s.cfg.drainQueue = true := by
  cases h : s.phase with
  | dispatch => exact ⟨rfl, by simpa [awaitFits, h, ha] using hf⟩
  | idle | wait | tmout | iterate | faulted => simp [awaitFits, h, ha] at hf

/-- A callback is invoked in `DISPATCH`, `TMOUT` or `ITERATE` (R30, R244). -/
theorem phase_of_callback {s : State} {req : CbRequest} (hf : awaitFits s) (ha : s.await = .callback req) :
    s.phase = .dispatch ∨ s.phase = .tmout ∨ s.phase = .iterate := by
  cases h : s.phase with
  | dispatch | tmout | iterate => simp
  | idle | wait | faulted => simp [awaitFits, h, ha] at hf

/-! ### The actions of a `STEP` leave a request that fits -/

theorem awaitFits_endStep (s : State) : awaitFits (endStep s) := trivial

theorem awaitFits_failStep (s : State) : awaitFits (failStep s) := trivial

theorem awaitFits_beginStep (s : State) : awaitFits (beginStep s) := rfl

/-- The iteration phase asks for the callback at `iter_idx`, or ends the step (R249). -/
theorem awaitFits_callIteration {s : State} (hp : s.phase = .iterate) : awaitFits (callIteration s) := by
  unfold callIteration
  cases h : s.iter[s.iterIdx]? with
  | none => exact awaitFits_endStep s
  | some hid => simp [awaitFits, enterCallback, hp, h]

theorem awaitFits_enterIteration (s : State) : awaitFits (enterIteration s) := awaitFits_callIteration rfl

/-- After a frame: `has_pending` in drain mode, else the iteration phase (R247). -/
theorem awaitFits_afterFrame {s : State} (hp : s.phase = .dispatch) : awaitFits (afterFrame s) := by
  unfold afterFrame
  split
  · next drain => simp [awaitFits, hp, drain]
  · exact awaitFits_enterIteration s

/-- Routing reads the tables and the unmatched-handler only (R246). -/
@[simp] theorem route_withPhase (s : State) (p : Phase) (f : CanFrame) : route (s.withPhase p) f = route s f := rfl
@[simp] theorem route_withCur (s : State) (g f : CanFrame) : route (s.withCur g) f = route s f := rfl
@[simp] theorem route_withAwait (s : State) (a : Await) (f : CanFrame) : route (s.withAwait a) f = route s f := rfl

/-- A frame: the callback it is routed to is asked for with the frame, or it is dropped (R246). -/
theorem awaitFits_handleFrame (f : CanFrame) (s : State) : awaitFits (handleFrame f s) := by
  unfold handleFrame
  split
  · next k h routed => simp [awaitFits, enterCallback, routed]
  · exact awaitFits_afterFrame rfl

/-- A timeout: the timeout-handler when one is set, else the iteration phase (R248). -/
theorem awaitFits_handleTimeout (s : State) : awaitFits (handleTimeout s) := by
  unfold handleTimeout
  split
  · next valid => simp [awaitFits, enterCallback, valid]
  · exact awaitFits_enterIteration _

theorem awaitFits_received (r : Option CanFrame) (s : State) : awaitFits (received r s) := by
  unfold received
  split
  · exact awaitFits_handleFrame _ _
  · split
    · exact awaitFits_handleTimeout _
    · exact awaitFits_enterIteration _

/-- A further `receive` is asked in `DISPATCH` and in drain mode, as `has_pending` was (R247). -/
theorem awaitFits_pendingAnswered (p : Bool) {s : State} (hp : s.phase = .dispatch) (drain : s.cfg.drainQueue = true) :
    awaitFits (pendingAnswered p s) := by
  cases p with
  | false => exact awaitFits_enterIteration _
  | true => simp [awaitFits, pendingAnswered, hp, drain]

/-- Sending a returned frame adds at most an event (R250). -/
theorem sendReturned_cases (k : CbKind) (g : Option CanFrame) (s : State) :
    sendReturned k g s = s ∨ ∃ f, g = some f ∧ sendReturned k g s = s.log (.send f) := by
  cases g with
  | none => exact .inl rfl
  | some f => cases h : sendEnabled s.cfg k <;> simp [sendReturned, h]

@[simp] theorem sendReturned_phase (k : CbKind) (g : Option CanFrame) (s : State) : (sendReturned k g s).phase = s.phase := by
  obtain e | ⟨f, -, e⟩ := sendReturned_cases k g s <;> rw [e]
  rfl

theorem awaitFits_afterCallback {s : State} (hp : s.phase = .dispatch ∨ s.phase = .tmout ∨ s.phase = .iterate) :
    awaitFits (afterCallback s) := by
  obtain h | h | h := hp
  · simpa [afterCallback, h] using awaitFits_afterFrame h
  · simpa [afterCallback, h] using awaitFits_enterIteration s
  · simpa [afterCallback, h] using awaitFits_callIteration (s := s.withIterIdx (s.iterIdx + 1)) h

theorem awaitFits_callbackAnswered (req : CbRequest) (a : Answer) {s : State}
    (hp : s.phase = .dispatch ∨ s.phase = .tmout ∨ s.phase = .iterate) : awaitFits (callbackAnswered req a s) := by
  cases a with
  | fault => exact awaitFits_failStep _
  | ret g => exact awaitFits_afterCallback (by simpa using hp)

/-- Every `advance` leaves a request that fits (R244). -/
theorem advance_awaitFits {s t : State} (hf : awaitFits s) (h : advance s = some t) : awaitFits t := by
  obtain ⟨_, r, rest, -, -, rfl⟩ | ⟨p, rest, ha, -, rfl⟩ | ⟨req, r, rest, ha, -, rfl⟩ := advance_cases h
  · exact awaitFits_received _ _
  · obtain ⟨hp, drain⟩ := dispatch_of_hasPending hf ha
    exact awaitFits_pendingAnswered p hp drain
  · exact awaitFits_callbackAnswered req _ (phase_of_callback hf ha)

/-! ### The invariant, operation by operation -/

/-- A well-formed table with room for one more is well formed after a fresh entry is stored (R24, R236). -/
theorem tableWf_insertEntry {cap : Option Nat} {t : List Entry} {e : Entry} (wf : tableWf cap t = true)
    (fresh : lookup t e.key = none) (room : atCapacity cap t.length = false) : tableWf cap (insertEntry t e) = true := by
  simp only [tableWf, Bool.and_eq_true, length_insertEntry] at wf ⊢
  obtain ⟨rise, within⟩ := wf
  exact ⟨keysRise_insertEntry rise fresh, withinCapacity_succ within room⟩

/-- A state that differs in a `STEP`'s own registers and the ports only is good when its request fits. -/
theorem Good.of_sameBlock {s t : State} (good : Good s) (same : SameBlock s t) (port : awaitFits t) : Good t where
  dataTable := by rw [same.cfg, same.dataTable]; exact good.dataTable
  rtrTable := by rw [same.cfg, same.rtrTable]; exact good.rtrTable
  iterList := by rw [same.cfg, same.iter]; exact good.iterList
  port := port

/-- The buffer and the response port are no part of the invariant. -/
theorem Good.answered {s : State} (good : Good s) (h : HBuf) (r : Rsp) : Good ((s.withHb h).respond r) :=
  ⟨good.dataTable, good.rtrTable, good.iterList, good.port⟩

/-- Neither are the ports from which commands are taken. -/
theorem Good.takeCommand {s : State} (good : Good s) : Good (takeCommand s) := by
  unfold Machine.takeCommand
  split <;> exact ⟨good.dataTable, good.rtrTable, good.iterList, good.port⟩

/-- Running on keeps the invariant (R244). -/
theorem Good.resume {s : State} (good : Good s) : Good (resume s) :=
  resume_keeps (fun _ _ g h => g.of_sameBlock (advance_frame h) (advance_awaitFits g.port h)) s good

/-- So does accepting a `STEP` (R245). -/
theorem Good.beginStep {s : State} (good : Good s) : Good (beginStep s) :=
  ⟨good.dataTable, good.rtrTable, good.iterList, awaitFits_beginStep s⟩

/-- In `IDLE` the invariant says nothing of the routing state but that it is in form. -/
theorem Good.port_of_idle {s t : State} (good : Good s) (idle : s.phase = .idle) (hp : t.phase = s.phase)
    (ha : t.await = s.await) : awaitFits t := by
  simp [awaitFits, hp, ha, idle, await_none_of_idle good.port idle]

/-- Every command keeps the invariant: by the effects it can have. -/
theorem Good.exec {s t : State} (good : Good s) {i : Instr} (h : exec i s = .next t) : Good t := by
  cases exec_effect h with
  | answered _ buf r => exact good.answered buf r
  | regHandler _ _ idle fresh room =>
    exact ⟨tableWf_insertEntry good.dataTable fresh room, good.rtrTable, good.iterList, good.port_of_idle idle rfl rfl⟩
  | regRtrHandler _ _ idle fresh room =>
    exact ⟨good.dataTable, tableWf_insertEntry good.rtrTable fresh room, good.iterList, good.port_of_idle idle rfl rfl⟩
  | regUnmatched _ idle => exact ⟨good.dataTable, good.rtrTable, good.iterList, good.port_of_idle idle rfl rfl⟩
  | regTimeout _ idle => exact ⟨good.dataTable, good.rtrTable, good.iterList, good.port_of_idle idle rfl rfl⟩
  | regIteration hid idle room =>
    refine ⟨good.dataTable, good.rtrTable, ?_, good.port_of_idle idle rfl rfl⟩
    simpa using withinCapacity_succ good.iterList room
  | step => exact good.beginStep.resume

/-- So does every accepted word (R112). -/
theorem Good.runWord {s t : State} (good : Good s) {w : PortWord} (h : runWord w s = .next t) : Good t := by
  cases hw : decode w with
  | ok i =>
    rw [runWord_of_decode hw] at h
    exact good.exec h
  | error e =>
    rw [runWord_of_decode_error hw] at h
    cases h
    exact good.answered s.hb _

/-- Settles O60: a step is a reset, an accepted word, a `STEP` that goes on, or nothing, and each keeps the invariant. -/
theorem stepKeepsGood : Obligations.StepKeepsGood := by
  intro s t good h
  unfold step at h
  split at h
  · cases h
    exact good_applyReset s
  · exact good.takeCommand.runWord h
  · cases h
    exact good.resume
  · cases h
    exact good

end Sys2Proof.Machine
end

section
/-! What a `STEP` does not read: the buffer, and the tag of a slot that is not valid. One change of state stands for both, and
every action of a `STEP` commutes with it (10_state.md R21, R26, R27, R45). -/

namespace Sys2Proof.Machine

/-- The state with another buffer and other slots. -/
def State.withUnread (s : State) (h : HBuf) (u m : Slot) : State :=
  ((s.withHb h).withUnm u).withTmo m

/-- Two slots that no reader of valid slots can tell apart: the same, but for the tag when neither is valid. -/
structure SlotAlike (old new : Slot) : Prop where
  valid : new.valid = old.valid
  hid : old.valid = true → new.hid = old.hid

theorem SlotAlike.refl (x : Slot) : SlotAlike x x := ⟨rfl, fun _ => rfl⟩

/-- A slot that is not valid, under any other tag. -/
theorem SlotAlike.of_invalid {x : Slot} (h : x.valid = false) (tag : U32) : SlotAlike x ⟨false, tag⟩ :=
  ⟨h.symm, fun v => by simp [h] at v⟩

/-- The slots of a state stand against two slots they cannot be told from. -/
structure SlotsAlike (s : State) (u m : Slot) : Prop where
  unm : SlotAlike s.unm u
  tmo : SlotAlike s.tmo m

theorem SlotsAlike.of_sameBlock {s t : State} {u m : Slot} (alike : SlotsAlike s u m) (same : SameBlock s t) :
    SlotsAlike t u m :=
  ⟨same.unm ▸ alike.unm, same.tmo ▸ alike.tmo⟩

/-- The guard commutes with a change of state that keeps `phase`, when refusing and the body do (R231). -/
theorem guarded_commutes {g body body' : State → State} {s : State} (hp : (g s).phase = s.phase)
    (hr : ∀ st, refuse st (g s) = g (refuse st s)) (hb : body' (g s) = g (body s)) :
    guarded body' (g s) = g (guarded body s) := by
  unfold guarded
  rw [hp, hb, hr, hr]
  cases s.phase <;> rfl

section
variable {s : State} {h : HBuf} {u m : Slot}

/-! ### Actions that read neither the buffer nor a slot -/

theorem callIteration_withUnread (s : State) : callIteration (s.withUnread h u m) = (callIteration s).withUnread h u m := by
  have e : (s.withUnread h u m).iter[(s.withUnread h u m).iterIdx]? = s.iter[s.iterIdx]? := rfl
  unfold callIteration
  rw [e]
  cases s.iter[s.iterIdx]? <;> rfl

theorem enterIteration_withUnread (s : State) : enterIteration (s.withUnread h u m) = (enterIteration s).withUnread h u m :=
  callIteration_withUnread ((s.withPhase .iterate).withIterIdx 0)

theorem afterFrame_withUnread (s : State) : afterFrame (s.withUnread h u m) = (afterFrame s).withUnread h u m := by
  have e : (s.withUnread h u m).cfg = s.cfg := rfl
  unfold afterFrame
  rw [e, enterIteration_withUnread]
  split <;> rfl

theorem sendReturned_withUnread (k : CbKind) (g : Option CanFrame) (s : State) :
    sendReturned k g (s.withUnread h u m) = (sendReturned k g s).withUnread h u m := by
  have e : (s.withUnread h u m).cfg = s.cfg := rfl
  unfold sendReturned
  rw [e]
  cases g with
  | none => rfl
  | some f => dsimp only; split <;> rfl

theorem afterCallback_withUnread (s : State) : afterCallback (s.withUnread h u m) = (afterCallback s).withUnread h u m := by
  have e : (s.withUnread h u m).phase = s.phase := rfl
  unfold afterCallback
  rw [e]
  cases s.phase with
  | dispatch => exact afterFrame_withUnread s
  | tmout => exact enterIteration_withUnread s
  | iterate => exact callIteration_withUnread (s.withIterIdx (s.iterIdx + 1))
  | idle | wait | faulted => rfl

theorem callbackAnswered_withUnread (req : CbRequest) (a : Answer) (s : State) :
    callbackAnswered req a (s.withUnread h u m) = (callbackAnswered req a s).withUnread h u m := by
  cases a with
  | fault => rfl
  | ret g =>
    have e := sendReturned_withUnread (h := h) (u := u) (m := m) req.kind g (s.log (.invoke req (.ret g)))
    exact (congrArg afterCallback e).trans (afterCallback_withUnread _)

theorem pendingAnswered_withUnread (p : Bool) (s : State) :
    pendingAnswered p (s.withUnread h u m) = (pendingAnswered p s).withUnread h u m := by
  cases p with
  | true => rfl
  | false => exact enterIteration_withUnread (s.log (.pending false))

/-! ### Actions that read a valid slot -/

theorem fallback_withUnread (alike : SlotsAlike s u m) : fallback (s.withUnread h u m) = fallback s := by
  have e : fallback (s.withUnread h u m) = if u.valid then some (.unmatched, u.hid) else none := rfl
  rw [e, alike.unm.valid]
  cases hv : s.unm.valid with
  | false => simp [fallback, hv]
  | true => simp [fallback, hv, alike.unm.hid hv]

theorem route_withUnread (alike : SlotsAlike s u m) (f : CanFrame) : route (s.withUnread h u m) f = route s f := by
  unfold route
  rw [fallback_withUnread alike]
  rfl

theorem handleFrame_withUnread (alike : SlotsAlike s u m) (f : CanFrame) :
    handleFrame f (s.withUnread h u m) = (handleFrame f s).withUnread h u m := by
  unfold handleFrame
  rw [route_withUnread alike]
  cases route s f with
  | none => exact afterFrame_withUnread ((s.withPhase .dispatch).withCur f)
  | some kh => rfl

theorem handleTimeout_withUnread (alike : SlotsAlike s u m) :
    handleTimeout (s.withUnread h u m) = (handleTimeout s).withUnread h u m := by
  have e : (s.withUnread h u m).tmo = m := rfl
  unfold handleTimeout
  rw [e, alike.tmo.valid]
  cases hv : s.tmo.valid with
  | false => exact enterIteration_withUnread (s.withPhase .tmout)
  | true =>
    rw [alike.tmo.hid hv]
    rfl

theorem received_withUnread (alike : SlotsAlike s u m) (r : Option CanFrame) :
    received r (s.withUnread h u m) = (received r s).withUnread h u m := by
  have logged : SlotsAlike (s.log (.recv r)) u m := ⟨alike.unm, alike.tmo⟩
  have e : (s.withUnread h u m).phase = s.phase := rfl
  have el : (s.withUnread h u m).log (.recv r) = (s.log (.recv r)).withUnread h u m := rfl
  unfold received
  rw [e, el, handleTimeout_withUnread logged, enterIteration_withUnread]
  cases r with
  | some f => exact handleFrame_withUnread logged f
  | none => dsimp only; split <;> rfl

/-! ### A whole `STEP` -/

theorem advance_withUnread (alike : SlotsAlike s u m) :
    advance (s.withUnread h u m) = (advance s).map (State.withUnread · h u m) := by
  have ea : (s.withUnread h u m).await = s.await := rfl
  have er : (s.withUnread h u m).rxDue = s.rxDue := rfl
  have ep : (s.withUnread h u m).pendDue = s.pendDue := rfl
  have ec : (s.withUnread h u m).cbDue = s.cbDue := rfl
  unfold advance
  rw [ea, er, ep, ec]
  cases s.await with
  | none => rfl
  | receive _ =>
    cases s.rxDue with
    | nil => rfl
    | cons r rest => exact congrArg some (received_withUnread (alike.of_sameBlock (sameBlock_takeRx s rest)) r.meaning)
  | hasPending =>
    cases s.pendDue with
    | nil => rfl
    | cons p rest => exact congrArg some (pendingAnswered_withUnread p (s.takePend rest))
  | callback req =>
    cases s.cbDue with
    | nil => rfl
    | cons e rest =>
      cases e with
      | command w => rfl
      | answer r => exact congrArg some (callbackAnswered_withUnread req r.meaning (s.takeCb rest))

theorem runFor_withUnread (n : Nat) (alike : SlotsAlike s u m) :
    runFor n (s.withUnread h u m) = (runFor n s).withUnread h u m := by
  induction n generalizing s with
  | zero => rfl
  | succ n ih =>
    unfold runFor
    rw [advance_withUnread alike]
    cases e : advance s with
    | none => rfl
    | some t => exact ih (alike.of_sameBlock (advance_frame e))

/-- A `STEP` that goes on does the same whatever it does not read. -/
theorem resume_withUnread (alike : SlotsAlike s u m) : resume (s.withUnread h u m) = (resume s).withUnread h u m :=
  runFor_withUnread (answersLeft s) alike

/-- So does a `STEP` from its command on. -/
theorem exec_step_withUnread (alike : SlotsAlike s u m) :
    exec .step (s.withUnread h u m) = .next ((guarded (fun s => resume (beginStep s)) s).withUnread h u m) := by
  have run : resume (beginStep (s.withUnread h u m)) = (resume (beginStep s)).withUnread h u m :=
    resume_withUnread (s := beginStep s) ⟨alike.unm, alike.tmo⟩
  exact congrArg Host.Outcome.next (guarded_commutes (g := (State.withUnread · h u m)) rfl (fun _ => rfl) run)

/-- The same, of the state a `STEP` leads to. -/
theorem exec_step_withUnread_of_next {t : State} (alike : SlotsAlike s u m) (ht : exec .step s = .next t) :
    exec .step (s.withUnread h u m) = .next (t.withUnread h u m) := by
  cases ht
  exact exec_step_withUnread alike

end

/-- `STEP` leaves the buffer, the routing state and the parameters alone, refused or not (R21, R231, R245). -/
theorem sameBlock_of_exec_step {s t : State} (ht : exec .step s = .next t) : SameBlock s t := by
  cases ht
  obtain ⟨-, e⟩ | ⟨-, e⟩ | ⟨-, -, e⟩ := guarded_cases (fun s => resume (beginStep s)) s
  · exact e ▸ sameBlock_resume_beginStep s
  · exact e ▸ (sameBut_respond s _).toSameBlock
  · exact e ▸ (sameBut_respond s _).toSameBlock

/-- What commutes with every change of the unread state, and leaves that state alone, does the same under another buffer, and
under another tag of either slot while it is not valid. -/
theorem ignores_unread {f : State → Host.Outcome State Fault Refusal} {s t : State} (same : SameBlock s t)
    (commutes : ∀ h u m, SlotsAlike s u m → f (s.withUnread h u m) = .next (t.withUnread h u m)) :
    (∀ h : HBuf, f (s.withHb h) = .next (t.withHb h)) ∧
      (∀ h : U32, s.unm.valid = false → f (s.withUnm ⟨false, h⟩) = .next (t.withUnm ⟨false, h⟩)) ∧
        (∀ h : U32, s.tmo.valid = false → f (s.withTmo ⟨false, h⟩) = .next (t.withTmo ⟨false, h⟩)) := by
  refine ⟨fun h => ?_, fun h invalid => ?_, fun h invalid => ?_⟩
  · have e : t.withUnread h s.unm s.tmo = t.withHb h := by rw [← same.unm, ← same.tmo]; rfl
    exact e ▸ commutes h s.unm s.tmo ⟨.refl _, .refl _⟩
  · have e : t.withUnread s.hb ⟨false, h⟩ s.tmo = t.withUnm ⟨false, h⟩ := by rw [← same.hb, ← same.tmo]; rfl
    exact e ▸ commutes s.hb ⟨false, h⟩ s.tmo ⟨.of_invalid invalid h, .refl _⟩
  · have e : t.withUnread s.hb s.unm ⟨false, h⟩ = t.withTmo ⟨false, h⟩ := by rw [← same.hb, ← same.unm]; rfl
    exact e ▸ commutes s.hb s.unm ⟨false, h⟩ ⟨.refl _, .of_invalid invalid h⟩

/-- A `STEP` from its command on ignores what it does not read (R21, R26, R27). -/
theorem exec_step_ignores_unread {s t : State} (ht : exec .step s = .next t) :
    (∀ h : HBuf, exec .step (s.withHb h) = .next (t.withHb h)) ∧
      (∀ h : U32, s.unm.valid = false → exec .step (s.withUnm ⟨false, h⟩) = .next (t.withUnm ⟨false, h⟩)) ∧
        (∀ h : U32, s.tmo.valid = false → exec .step (s.withTmo ⟨false, h⟩) = .next (t.withTmo ⟨false, h⟩)) :=
  ignores_unread (sameBlock_of_exec_step ht) fun _ _ _ alike => exec_step_withUnread_of_next alike ht

/-- Settles O54: the part of `exec_step_ignores_unread` that speaks of the slots. -/
theorem invalidSlotsAreNotRead : Obligations.InvalidSlotsAreNotRead := by
  intro s t h ht
  obtain ⟨-, unm, tmo⟩ := exec_step_ignores_unread ht
  exact ⟨unm h, tmo h⟩

/-! ### A `STEP` that goes on after a wait -/

/-- The block waits for an answer, of the transport or of a callback whose agent does not first issue a command (R41, R244). -/
structure AwaitsAnswer (s : State) : Prop where
  noReset : s.resetReq = false
  waits : s.await ≠ .none
  noCommand : ∀ (req : CbRequest) (w : PortWord) (rest : List CbEvent),
    s.await = .callback req → s.cbDue ≠ .command w :: rest

/-- Then the next step goes on with the `STEP` (R244). -/
theorem AwaitsAnswer.step_eq {s : State} (h : AwaitsAnswer s) : step s = .next (resume s) := by
  obtain ⟨req, w, rest, ha, hc, -⟩ | e := step_cases_of_await h.noReset h.waits
  · exact absurd hc (h.noCommand req w rest ha)
  · exact e

/-- Settles O42: the step is `resume`, which keeps the block's state and commutes with every change of what it does not read. -/
theorem resumedStepKeepsState : Obligations.ResumedStepKeepsState := by
  intro s t good noReset inProgress noCommand ht
  have waits : AwaitsAnswer s := ⟨noReset, await_ne_none_of_stepInProgress good.port inProgress, noCommand⟩
  rw [waits.step_eq] at ht
  cases ht
  have same := resume_frame s
  refine ⟨same.hb, same.routing, same.cfg, ignores_unread same fun h u m alike => ?_⟩
  have waits' : AwaitsAnswer (s.withUnread h u m) := ⟨waits.noReset, waits.waits, waits.noCommand⟩
  rw [waits'.step_eq, resume_withUnread alike]

/-! ### Units I and D do not touch the buffer -/

/-- The guard reads `phase` only (R231). -/
theorem guarded_withHb {body body' : State → State} {s : State} {h : HBuf} (hb : body' (s.withHb h) = (body s).withHb h) :
    guarded body' (s.withHb h) = (guarded body s).withHb h :=
  guarded_commutes (g := (State.withHb · h)) rfl (fun _ => rfl) hb

/-- A keyed registration reads its table and capacity only (R236, R238). -/
theorem registerKey_withHb {table : List Entry} {cap : Option Nat} {e : Entry} {store store' : List Entry → State} {s : State}
    {h : HBuf} (hs : ∀ l, store' l = (store l).withHb h) :
    registerKey table cap e store' (s.withHb h) = (registerKey table cap e store s).withHb h := by
  unfold registerKey
  rw [hs]
  split
  · rfl
  · split <;> rfl

theorem appendIteration_withHb (hid : U32) (s : State) (h : HBuf) :
    appendIteration hid (s.withHb h) = (appendIteration hid s).withHb h := by
  unfold appendIteration
  rw [State.withHb_cfg, State.withHb_iter]
  split <;> rfl

/-- A command of unit I or D does the same whatever the buffer holds (R21). -/
theorem exec_withHb {i : Instr} {s t : State} (hi : i.unit = .identifier ∨ i.unit = .dispatcher) (ht : exec i s = .next t)
    (h : HBuf) : exec i (s.withHb h) = .next (t.withHb h) := by
  cases i with
  | idEncode _ _ _ _ | idDecode _ | idFromRaw _ => cases ht; rfl
  | regHandler _ _ | regRtrHandler _ _ =>
    cases ht
    exact congrArg Host.Outcome.next (guarded_withHb (registerKey_withHb fun _ => rfl))
  | regUnmatched _ | regTimeout _ =>
    cases ht
    exact congrArg Host.Outcome.next (guarded_withHb rfl)
  | regIteration hid =>
    cases ht
    exact congrArg Host.Outcome.next (guarded_withHb (appendIteration_withHb hid s h))
  | step =>
    obtain ⟨buffer, -, -⟩ := exec_step_ignores_unread ht
    exact buffer h
  | _ => obtain hi | hi := hi <;> cases hi

/-- Settles O31: run with its own buffer put in again, the command leaves just that buffer. -/
theorem identifierAndDispatcherIgnoreBuffer : Obligations.IdentifierAndDispatcherIgnoreBuffer := by
  intro i s t hi ht
  refine ⟨?_, exec_withHb hi ht⟩
  have own : exec i s = .next (t.withHb s.hb) := exec_withHb hi ht s.hb
  have same : t = t.withHb s.hb := Host.Outcome.next.inj (ht.symm.trans own)
  rw [same, State.withHb_hb]

end Sys2Proof.Machine
end

section
/-! The callback agent's own commands, and a list registration (10_state.md R28, R41, 30_encoding.md R117). -/

namespace Sys2Proof.Machine

/-- `HB_LOAD` of a buffer's two words builds that buffer (R105, R206). -/
@[simp] theorem HBuf.ofWords_words (h : HBuf) : HBuf.ofWords h.word0 h.word1 = h := by
  obtain ⟨b0, b1, b2, b3, b4, b5, b6, b7⟩ := h
  simp only [HBuf.ofWords, HBuf.word0, HBuf.word1, HBuf.mk.injEq]
  refine ⟨?_, ?_, ?_, ?_, ?_, ?_, ?_, ?_⟩ <;>
    (ext i hi; simp only [BitVec.getElem_extractLsb', BitVec.getLsbD_append]; grind)

/-- The word of an `HB_LOAD` decodes to it (R105). -/
theorem decode_encode_hbLoad (w0 w1 : U32) : decode (encode (.hbLoad w0 w1)) = .ok (.hbLoad w0 w1) := by
  rw [decode_encode_eq_decodeCmd]
  rfl

/-- A word of the callback agent is taken from its port, and leaves an answer and at most another buffer (R41). -/
theorem step_of_nestedCommand {s t : State} {req : CbRequest} {w : PortWord} {rest : List CbEvent}
    (noReset : s.resetReq = false) (ha : s.await = .callback req) (inProgress : stepInProgress s)
    (hc : s.cbDue = .command w :: rest) (ht : step s = .next t) : ∃ h r, t = ((s.takeCb rest).withHb h).respond r := by
  rw [step_of_callbackWord noReset ha hc] at ht
  obtain ⟨h, r, e⟩ := runWord_of_stepInProgress ((stepInProgress_takeCb s rest).mpr inProgress) w
  exact ⟨h, r, Host.Outcome.next.inj (ht.symm.trans e)⟩

/-- Settles O55: a nested command changes no field but the buffer and two ports; `HB_LOAD` of the wanted buffer's words makes
it. -/
theorem callbackAgentChangesOnlyBuffer : Obligations.CallbackAgentChangesOnlyBuffer := by
  intro s req noReset ha inProgress
  constructor
  · intro t w rest hc ht
    obtain ⟨h, r, rfl⟩ := step_of_nestedCommand noReset ha inProgress hc ht
    exact ⟨⟨rfl, rfl, rfl, rfl, rfl⟩, rfl, rfl, rfl, rfl, rfl, rfl, rfl, rfl⟩
  · intro h rest hc
    rw [step_of_callbackWord noReset ha hc, runWord_of_decode (decode_encode_hbLoad _ _)]
    simp [exec, execHbLoad, okOnly, okRsp]

/-! ### `register_iteration` of a list -/

/-- A length with room for at least one more is not at the capacity (R241). -/
theorem atCapacity_eq_false {cap : Option Nat} {n : Nat} (room : ∀ c, cap = some c → n < c) : atCapacity cap n = false := by
  cases cap with
  | none => rfl
  | some c => exact decide_eq_false (room c rfl).ne

/-- `REG_ITERATION` in `IDLE`, with room, appends its tag (R241). -/
theorem exec_regIteration_of_room {s : State} (idle : s.phase = .idle) (room : atCapacity s.cfg.capIter s.iter.length = false)
    (hid : U32) : exec (.regIteration hid) s = .next ((s.withIter (s.iter ++ [hid])).respond okOnly) := by
  simp [exec, execRegIteration, idle, appendIteration, room]

/-- After an `OK` a list of commands goes on (R117). -/
theorem execList_cons_of_ok {i : Instr} {rest : List Instr} {s t : State} (h : exec i s = .next (t.respond okOnly)) :
    execList (i :: rest) s = execList rest (t.respond okOnly) := by
  simp [execList, h, lastOk, State.respond, okOnly, okRsp]

/-- The state after a row of registrations, all accepted: the tags appended, and an `OK` for each. -/
def State.withRegistered (s : State) (hids : List U32) : State :=
  { s.withIter (s.iter ++ hids) with rsps := s.rsps ++ hids.map fun _ => okOnly }

/-- One registration, then the others. -/
theorem State.withRegistered_cons (s : State) (hid : U32) (hids : List U32) :
    s.withRegistered (hid :: hids) = ((s.withIter (s.iter ++ [hid])).respond okOnly).withRegistered hids := by
  simp [State.withRegistered, State.respond, State.withIter]

/-- A row of registrations that fits is accepted as a whole (R28, R117). -/
theorem execList_regIteration (hids : List U32) {s : State} (idle : s.phase = .idle)
    (fits : ∀ c, s.cfg.capIter = some c → s.iter.length + hids.length ≤ c) :
    execList (hids.map Instr.regIteration) s = .next (s.withRegistered hids) := by
  induction hids generalizing s with
  | nil => simp [execList, State.withRegistered, State.withIter]
  | cons hid hids ih =>
    have room : atCapacity s.cfg.capIter s.iter.length = false :=
      atCapacity_eq_false fun c hc => by have := fits c hc; rw [List.length_cons] at this; omega
    rw [List.map_cons, execList_cons_of_ok (exec_regIteration_of_room idle room hid), State.withRegistered_cons]
    refine ih idle fun c hc => ?_
    have := fits c hc
    simp only [List.length_cons, State.respond_iter, State.withIter_iter, List.length_append, List.length_nil] at this ⊢
    omega

/-- Settles O37: by the row of registrations the list expands to. -/
theorem listRegistrationAppendsInOrder : Obligations.ListRegistrationAppendsInOrder := fun hids s idle fits =>
  ⟨s.withRegistered hids, execList_regIteration hids idle fits, rfl, rfl, idle, rfl, rfl, rfl, rfl, rfl⟩

end Sys2Proof.Machine
end

section
/-! How many receives a `STEP` makes: each `Pending(1)` is paid for by one more `Recv`, and a `receive` still outstanding is owed
(43_dispatcher.md R247, R264). -/

namespace Sys2Proof.Machine

/-! ### Counting over traces -/

@[simp] theorem recvCount_append (a b : List Event) : recvCount (a ++ b) = recvCount a + recvCount b := by
  simp [recvCount]

@[simp] theorem pendingCount_append (a b : List Event) : pendingCount (a ++ b) = pendingCount a + pendingCount b := by
  simp [pendingCount]

/-- The receives still to be answered: the one outstanding, if any. -/
def receivesOwed : Await → Nat
  | .receive _ => 1
  | _ => 0

/-! ### Actions that log no event and ask for no receive -/

/-- From `s` to `t` no event was logged, and in `t` no receive is outstanding. -/
structure Silent (s t : State) : Prop where
  trace : t.trace = s.trace
  owed : receivesOwed t.await = 0

theorem silent_callIteration (s : State) : Silent s (callIteration s) := by
  unfold callIteration
  split <;> exact ⟨rfl, rfl⟩

theorem silent_enterIteration (s : State) : Silent s (enterIteration s) := by
  obtain ⟨trace, owed⟩ := silent_callIteration ((s.withPhase .iterate).withIterIdx 0)
  exact ⟨trace, owed⟩

theorem silent_afterFrame (s : State) : Silent s (afterFrame s) := by
  unfold afterFrame
  split
  · exact ⟨rfl, rfl⟩
  · exact silent_enterIteration s

theorem silent_handleFrame (f : CanFrame) (s : State) : Silent s (handleFrame f s) := by
  unfold handleFrame
  split
  · exact ⟨rfl, rfl⟩
  · obtain ⟨trace, owed⟩ := silent_afterFrame ((s.withPhase .dispatch).withCur f)
    exact ⟨trace, owed⟩

theorem silent_handleTimeout (s : State) : Silent s (handleTimeout s) := by
  unfold handleTimeout
  split
  · exact ⟨rfl, rfl⟩
  · obtain ⟨trace, owed⟩ := silent_enterIteration (s.withPhase .tmout)
    exact ⟨trace, owed⟩

theorem silent_afterCallback (s : State) : Silent s (afterCallback s) := by
  unfold afterCallback
  split
  · exact silent_afterFrame s
  · exact silent_enterIteration s
  · obtain ⟨trace, owed⟩ := silent_callIteration (s.withIterIdx (s.iterIdx + 1))
    exact ⟨trace, owed⟩
  · exact ⟨rfl, rfl⟩

/-! ### What one `advance` adds to the trace -/

/-- The receive answered: one `Recv`, and no receive is outstanding (R245, R262). -/
theorem silent_received (r : Option CanFrame) (s : State) : Silent (s.log (.recv r)) (received r s) := by
  unfold received
  split
  · exact silent_handleFrame _ _
  · split
    · exact silent_handleTimeout _
    · exact silent_enterIteration _

/-- The question for more answered: one `Pending`, and a receive is asked for if and only if there is more (R247, R262). -/
theorem pendingAnswered_trace (p : Bool) (s : State) :
    (pendingAnswered p s).trace = s.trace ++ [.pending p] ∧
      receivesOwed (pendingAnswered p s).await = pendingCount [.pending p] := by
  cases p with
  | true => exact ⟨rfl, rfl⟩
  | false =>
    obtain ⟨trace, owed⟩ := silent_enterIteration (s.log (.pending false))
    exact ⟨trace, owed⟩

/-- The invocation answered: its `Invoke` and at most one `Send`, and no receive is outstanding (R250, R251, R262). -/
theorem callbackAnswered_trace (req : CbRequest) (a : Answer) (s : State) :
    ∃ sends, (sends = [] ∨ ∃ f, sends = [.send f]) ∧
      (callbackAnswered req a s).trace = s.trace ++ .invoke req a :: sends ∧
      receivesOwed (callbackAnswered req a s).await = 0 := by
  cases a with
  | fault => exact ⟨[], .inl rfl, rfl, rfl⟩
  | ret g =>
    obtain ⟨trace, owed⟩ := silent_afterCallback (sendReturned req.kind g (s.log (.invoke req (.ret g))))
    obtain e | ⟨f, -, e⟩ := sendReturned_cases req.kind g (s.log (.invoke req (.ret g)))
    · exact ⟨[], .inl rfl, by rw [callbackAnswered, trace, e, State.log_trace], owed⟩
    · exact ⟨[.send f], .inr ⟨f, rfl⟩, by
        rw [callbackAnswered, trace, e, State.log_trace, State.log_trace, List.append_assoc, List.singleton_append], owed⟩

/-- The account of one `advance`: a receive owed before is made, and one is owed after for each `Pending(1)`, which only the
answer of `has_pending` is (R247, R264). -/
theorem advance_receives {s t : State} (h : advance s = some t) :
    ∃ added, t.trace = s.trace ++ added ∧
      recvCount added + receivesOwed t.await = receivesOwed s.await + pendingCount added ∧
      (s.await ≠ .hasPending → pendingCount added = 0) := by
  obtain ⟨tm, r, rest, ha, -, rfl⟩ | ⟨p, rest, ha, -, rfl⟩ | ⟨req, r, rest, ha, -, rfl⟩ := advance_cases h
  · obtain ⟨trace, owed⟩ := silent_received r.meaning (s.takeRx rest)
    refine ⟨[.recv r.meaning], trace, ?_, fun _ => rfl⟩
    rw [owed, ha]
    rfl
  · obtain ⟨trace, owed⟩ := pendingAnswered_trace p (s.takePend rest)
    refine ⟨[.pending p], trace, ?_, fun other => absurd ha other⟩
    rw [owed, ha]
    rfl
  · obtain ⟨sends, hs, trace, owed⟩ := callbackAnswered_trace req r.meaning (s.takeCb rest)
    refine ⟨_, trace, ?_, fun _ => ?_⟩
    · rw [owed, ha]
      obtain rfl | ⟨f, rfl⟩ := hs <;> rfl
    · obtain rfl | ⟨f, rfl⟩ := hs <;> rfl

/-! ### The account over a whole `STEP` -/

/-- How the receives of a `STEP` begun in `s` stand in `t`: one more than the `Pending(1)` events, those owed counted; and no
`Pending(1)` without drain mode. -/
structure ReceivesBalanced (s t : State) : Prop where
  port : awaitFits t
  cfg : t.cfg = s.cfg
  account : ∃ events, t.trace = s.trace ++ events ∧ recvCount events + receivesOwed t.await = 1 + pendingCount events ∧
    (s.cfg.drainQueue = false → pendingCount events = 0)

/-- A freshly accepted `STEP` owes its first receive (R245). -/
theorem receivesBalanced_beginStep (s : State) : ReceivesBalanced s (beginStep s) :=
  ⟨awaitFits_beginStep s, rfl, [], (List.append_nil _).symm, rfl, fun _ => rfl⟩

/-- What keeps `phase`, the request, what it is held against and the trace keeps the account: nested commands, and answers that
come in. -/
theorem ReceivesBalanced.of_same {s t u : State} (b : ReceivesBalanced s t) (port : awaitFits t → awaitFits u)
    (cfg : u.cfg = t.cfg) (trace : u.trace = t.trace) (await : u.await = t.await) : ReceivesBalanced s u :=
  ⟨port b.port, cfg.trans b.cfg, by rw [trace, await]; exact b.account⟩

/-- Every `advance` keeps the account (R247, R264). -/
theorem ReceivesBalanced.advance {s t u : State} (b : ReceivesBalanced s t) (h : advance t = some u) : ReceivesBalanced s u := by
  obtain ⟨port, cfg, events, trace, balance, noDrain⟩ := b
  obtain ⟨added, trace', balance', only⟩ := advance_receives h
  refine ⟨advance_awaitFits port h, (advance_frame h).cfg.trans cfg, events ++ added, ?_, ?_, fun off => ?_⟩
  · rw [trace', trace, List.append_assoc]
  · rw [recvCount_append, pendingCount_append]
    omega
  · have notAsked : t.await ≠ .hasPending := fun ha => by
      obtain ⟨-, on⟩ := dispatch_of_hasPending port ha
      rw [cfg, off] at on
      cases on
    rw [pendingCount_append, noDrain off, only notAsked]

theorem ReceivesBalanced.resume {s t : State} (b : ReceivesBalanced s t) : ReceivesBalanced s (resume t) :=
  resume_keeps (fun _ _ b h => b.advance h) t b

/-- Over a whole `STEP` the account holds at every point: at its beginning, when answers come in, and at every step, be it a
nested command or a part of the `STEP` (R41, R264). -/
theorem receivesBalanced_of_oneStep {s t : State} (idle : s.phase = .idle) (h : OneStep s t) : ReceivesBalanced s t := by
  induction h with
  | begun ht =>
    have e : exec .step s = .next (Machine.resume (beginStep s)) := congrArg Host.Outcome.next (guarded_idle idle)
    cases ht.symm.trans e
    exact (receivesBalanced_beginStep s).resume
  | fed rx pend cb _ ih => exact ih.of_same id rfl rfl rfl
  | went _ inProgress noReset ht ih =>
    obtain ⟨req, w, rest, ha, hc, -⟩ | e := step_cases_of_await noReset (await_ne_none_of_stepInProgress ih.port inProgress)
    · obtain ⟨h, r, rfl⟩ := step_of_nestedCommand noReset ha inProgress hc ht
      exact ih.of_same id rfl rfl rfl
    · cases ht.symm.trans e
      exact ih.resume

/-- Settles O53: in `IDLE` no receive is owed, so the account is the count. -/
theorem receivesPerStep : Obligations.ReceivesPerStep := by
  intro s t idle run ended
  obtain ⟨port, -, events, trace, balance, noDrain⟩ := receivesBalanced_of_oneStep idle run
  rw [await_none_of_idle port ended] at balance
  exact ⟨events, trace, balance, noDrain⟩

end Sys2Proof.Machine
end

section
/-! The events a step adds to the trace: each `Send` stands right behind the `Invoke` that returned its frame (10_state.md R76,
43_dispatcher.md R250, R264). -/

namespace Sys2Proof.Machine

/-! ### Traces in which every `Send` follows its `Invoke` -/

/-- An event that is no `Send` may be put before such a trace: it does not begin with a `Send`. -/
theorem sendsFollow_cons {e : Event} {l : List Event} (notSend : ∀ f, e ≠ .send f) (h : sendsFollow l = true) :
    sendsFollow (e :: l) = true := by
  cases e with
  | send f => exact absurd rfl (notSend f)
  | recv r => exact h
  | pending p => exact h
  | invoke req ans =>
    cases l with
    | nil => rcases ans with (_ | _) | _ <;> rfl
    | cons head l =>
      cases head with
      | send f => cases h
      | recv _ | pending _ | invoke _ _ => rcases ans with (_ | _) | _ <;> exact h

/-- Two such traces, one after the other, are such a trace. -/
theorem sendsFollow_append {a b : List Event} (ha : sendsFollow a = true) (hb : sendsFollow b = true) :
    sendsFollow (a ++ b) = true := by
  fun_induction sendsFollow a with
  | case1 => exact hb
  | case2 req f g rest ih =>
    obtain ⟨same, tail⟩ := Bool.and_eq_true_iff.mp ha
    exact Bool.and_eq_true_iff.mpr ⟨same, ih tail⟩
  | case3 f rest => cases ha
  | case4 e rest _ notSend ih => exact sendsFollow_cons (fun f he => notSend f he) (ih ha)

/-- In such a trace each `Send` has an `Invoke` of its own. -/
theorem sendCount_le_invokeCount {l : List Event} (h : sendsFollow l = true) : sendCount l ≤ invokeCount l := by
  fun_induction sendsFollow l with
  | case1 => exact le_rfl
  | case2 req f g rest ih =>
    obtain ⟨-, tail⟩ := Bool.and_eq_true_iff.mp h
    exact Nat.succ_le_succ (ih tail)
  | case3 f rest => cases h
  | case4 e rest _ notSend ih =>
    cases e with
    | send f => exact absurd rfl (notSend f)
    | recv _ | pending _ => exact ih h
    | invoke _ _ => exact (ih h).trans (Nat.le_succ _)

/-! ### What an action of the block adds to the trace -/

/-- From `s` to `t` the trace only grew, by events among which every `Send` follows its `Invoke`. -/
def SendsFollowSince (s t : State) : Prop :=
  ∃ events, t.trace = s.trace ++ events ∧ sendsFollow events = true

/-- No event was added. -/
theorem SendsFollowSince.of_trace_eq {s t : State} (h : t.trace = s.trace) : SendsFollowSince s t :=
  ⟨[], by rw [h, List.append_nil], rfl⟩

theorem SendsFollowSince.trans {s t u : State} (a : SendsFollowSince s t) (b : SendsFollowSince t u) :
    SendsFollowSince s u := by
  obtain ⟨first, trace, follow⟩ := a
  obtain ⟨second, trace', follow'⟩ := b
  exact ⟨first ++ second, by rw [trace', trace, List.append_assoc], sendsFollow_append follow follow'⟩

/-- The invocation answered: its `Invoke`, and behind it at most the `Send` of the frame it returned (R250, R251). -/
theorem sendsFollowSince_callbackAnswered (req : CbRequest) (a : Answer) (s : State) :
    SendsFollowSince s (callbackAnswered req a s) := by
  cases a with
  | fault => exact ⟨[.invoke req .fault], rfl, rfl⟩
  | ret g =>
    have silent := (silent_afterCallback (sendReturned req.kind g (s.log (.invoke req (.ret g))))).trace
    obtain e | ⟨f, rfl, e⟩ := sendReturned_cases req.kind g (s.log (.invoke req (.ret g)))
    · exact ⟨[.invoke req (.ret g)], by rw [callbackAnswered, silent, e, State.log_trace],
        sendsFollow_cons (fun _ h => nomatch h) rfl⟩
    · exact ⟨[.invoke req (.ret (some f)), .send f], by
        rw [callbackAnswered, silent, e, State.log_trace, State.log_trace, List.append_assoc, List.singleton_append],
        by simp [sendsFollow]⟩

/-- One answer of the environment adds its `Recv`, its `Pending`, or what an answered invocation adds (R262). -/
theorem sendsFollowSince_advance {s t : State} (h : advance s = some t) : SendsFollowSince s t := by
  obtain ⟨_, r, rest, -, -, rfl⟩ | ⟨p, rest, -, -, rfl⟩ | ⟨req, r, rest, -, -, rfl⟩ := advance_cases h
  · exact ⟨[.recv r.meaning], (silent_received r.meaning (s.takeRx rest)).trace, rfl⟩
  · exact ⟨[.pending p], (pendingAnswered_trace p (s.takePend rest)).1, rfl⟩
  · exact sendsFollowSince_callbackAnswered req r.meaning (s.takeCb rest)

theorem sendsFollowSince_resume (s : State) : SendsFollowSince s (resume s) :=
  resume_keeps (fun _ _ since h => since.trans (sendsFollowSince_advance h)) s (.of_trace_eq rfl)

/-! ### What a step of the machine adds to the trace -/

/-- Only `STEP` adds events (R262). -/
theorem sendsFollowSince_exec {i : Instr} {s t : State} (h : exec i s = .next t) : SendsFollowSince s t := by
  cases exec_effect h with
  | answered | regHandler | regRtrHandler | regUnmatched | regTimeout | regIteration => exact .of_trace_eq rfl
  | step => exact sendsFollowSince_resume (beginStep s)

theorem sendsFollowSince_runWord {w : PortWord} {s t : State} (h : runWord w s = .next t) : SendsFollowSince s t := by
  cases hw : decode w with
  | ok i => exact sendsFollowSince_exec ((runWord_of_decode hw s).symm.trans h)
  | error e =>
    cases (runWord_of_decode_error hw s).symm.trans h
    exact .of_trace_eq rfl

/-- Taking a command word from its port adds no event. -/
@[simp] theorem takeCommand_trace (s : State) : (takeCommand s).trace = s.trace := by
  unfold takeCommand
  split <;> rfl

/-- Whatever the machine does next, the trace is kept and every `Send` added follows its `Invoke`; a reset adds nothing (log
entry 9). -/
theorem sendsFollowSince_step {s t : State} (h : step s = .next t) : SendsFollowSince s t := by
  cases next : nextAction s with
  | reset =>
    simp only [step, next, Host.Outcome.next.injEq] at h
    subst h
    exact .of_trace_eq rfl
  | command w =>
    simp only [step, next] at h
    exact (SendsFollowSince.of_trace_eq (takeCommand_trace s)).trans (sendsFollowSince_runWord h)
  | resume =>
    simp only [step, next, Host.Outcome.next.injEq] at h
    subst h
    exact sendsFollowSince_resume s
  | quiet =>
    simp only [step, next, Host.Outcome.next.injEq] at h
    subst h
    exact .of_trace_eq rfl

/-- Settles O52: by what each action of the machine adds; the count follows from the order. -/
theorem sendsFollowTheirInvocation : Obligations.SendsFollowTheirInvocation := fun _ _ h =>
  have ⟨events, trace, follow⟩ := sendsFollowSince_step h
  ⟨events, trace, follow, sendCount_le_invokeCount follow⟩

end Sys2Proof.Machine
end

section
/-! The identifier codec bit by bit: which operand bit stands at which place of the identifier, and which identifier bit each of
the four results answers (20_memory.md R71, 41_identifier_codec.md R151, R152). -/

namespace Sys2Proof.Machine

/-- The mask of the low `n` bits, bit by bit (R17). -/
theorem getLsbD_lowMask (w n k : Nat) :
    (BitVec.ofNat w (2 ^ n - 1)).getLsbD k = (decide (k < w) && decide (k < n)) := by
  rw [BitVec.getLsbD_ofNat, Nat.testBit_two_pow_sub_one]

/-- The same where the mask fits the word. -/
theorem getLsbD_lowMask_of_le {w n : Nat} (fits : n ≤ w) (k : Nat) :
    (BitVec.ofNat w (2 ^ n - 1)).getLsbD k = decide (k < n) := by
  rw [getLsbD_lowMask]
  grind

/-! ### The masks of the four fields and of the whole identifier (R71, R155) -/

theorem getLsbD_deviceTypeMask (k : Nat) : (0x1F#32).getLsbD k = decide (k < 5) :=
  getLsbD_lowMask_of_le (n := 5) (by decide) k

theorem getLsbD_manufacturerMask (k : Nat) : (0xFF#32).getLsbD k = decide (k < 8) :=
  getLsbD_lowMask_of_le (n := 8) (by decide) k

theorem getLsbD_apiMask (k : Nat) : (0x3FF#32).getLsbD k = decide (k < 10) :=
  getLsbD_lowMask_of_le (n := 10) (by decide) k

theorem getLsbD_deviceNumberMask (k : Nat) : (0x3F#32).getLsbD k = decide (k < 6) :=
  getLsbD_lowMask_of_le (n := 6) (by decide) k

theorem getLsbD_identifierMask (k : Nat) : (0x1FFFFFFF#32).getLsbD k = decide (k < 29) :=
  getLsbD_lowMask_of_le (n := 29) (by decide) k

/-! ### Decoding and encoding, bit by bit -/

theorem getLsbD_idDeviceType (id : U32) (k : Nat) : (idDeviceType id).getLsbD k = (id.getLsbD (24 + k) && decide (k < 5)) := by
  rw [idDeviceType, BitVec.getLsbD_and, getLsbD_deviceTypeMask, BitVec.getLsbD_ushiftRight]

theorem getLsbD_idManufacturer (id : U32) (k : Nat) :
    (idManufacturer id).getLsbD k = (id.getLsbD (16 + k) && decide (k < 8)) := by
  rw [idManufacturer, BitVec.getLsbD_and, getLsbD_manufacturerMask, BitVec.getLsbD_ushiftRight]

theorem getLsbD_idApi (id : U32) (k : Nat) : (idApi id).getLsbD k = (id.getLsbD (6 + k) && decide (k < 10)) := by
  rw [idApi, BitVec.getLsbD_and, getLsbD_apiMask, BitVec.getLsbD_ushiftRight]

theorem getLsbD_idDeviceNumber (id : U32) (k : Nat) : (idDeviceNumber id).getLsbD k = (id.getLsbD k && decide (k < 6)) := by
  rw [idDeviceNumber, BitVec.getLsbD_and, getLsbD_deviceNumberMask]

/-- The four slices of an identifier share no bit, so each bit comes from one operand; bits 31:29 are zero (R71, R151). -/
theorem getLsbD_encodeId (dt mf api dn : U32) (k : Nat) :
    (encodeId dt mf api dn).getLsbD k =
      if k < 6 then dn.getLsbD k
      else if k < 16 then api.getLsbD (k - 6)
      else if k < 24 then mf.getLsbD (k - 16)
      else dt.getLsbD (k - 24) && decide (k < 29) := by
  simp only [encodeId, BitVec.getLsbD_or, BitVec.getLsbD_shiftLeft, BitVec.getLsbD_and,
    getLsbD_deviceTypeMask, getLsbD_manufacturerMask, getLsbD_apiMask, getLsbD_deviceNumberMask]
  grind

/-! ### The round trips (R155) -/

theorem idDeviceType_encodeId (dt mf api dn : U32) : idDeviceType (encodeId dt mf api dn) = dt &&& 0x1F#32 := by
  apply BitVec.eq_of_getLsbD_eq
  intro k _
  rw [getLsbD_idDeviceType, getLsbD_encodeId, BitVec.getLsbD_and, getLsbD_deviceTypeMask]
  grind

theorem idManufacturer_encodeId (dt mf api dn : U32) : idManufacturer (encodeId dt mf api dn) = mf &&& 0xFF#32 := by
  apply BitVec.eq_of_getLsbD_eq
  intro k _
  rw [getLsbD_idManufacturer, getLsbD_encodeId, BitVec.getLsbD_and, getLsbD_manufacturerMask]
  grind

theorem idApi_encodeId (dt mf api dn : U32) : idApi (encodeId dt mf api dn) = api &&& 0x3FF#32 := by
  apply BitVec.eq_of_getLsbD_eq
  intro k _
  rw [getLsbD_idApi, getLsbD_encodeId, BitVec.getLsbD_and, getLsbD_apiMask]
  grind

theorem idDeviceNumber_encodeId (dt mf api dn : U32) : idDeviceNumber (encodeId dt mf api dn) = dn &&& 0x3F#32 := by
  apply BitVec.eq_of_getLsbD_eq
  intro k _
  rw [getLsbD_idDeviceNumber, getLsbD_encodeId, BitVec.getLsbD_and, getLsbD_deviceNumberMask]
  grind

/-- The slices of an identifier, encoded again, give it back but for its top three bits. -/
theorem encodeId_slices (id : U32) :
    encodeId (idDeviceType id) (idManufacturer id) (idApi id) (idDeviceNumber id) = id &&& 0x1FFFFFFF#32 := by
  apply BitVec.eq_of_getLsbD_eq
  intro k _
  rw [getLsbD_encodeId, getLsbD_idDeviceNumber, getLsbD_idApi, getLsbD_idManufacturer, getLsbD_idDeviceType,
    BitVec.getLsbD_and, getLsbD_identifierMask]
  grind

/-- `ID_ENCODE` answers the packed identifier (R151). -/
theorem exec_idEncode (dt mf api dn : U32) (s : State) :
    exec (.idEncode dt mf api dn) s = .next (s.respond (okRsp (encodeId dt mf api dn) 0 0 0)) := rfl

/-- `ID_DECODE` answers the four slices (R152). -/
theorem exec_idDecode (id : U32) (s : State) :
    exec (.idDecode id) s =
      .next (s.respond (okRsp (idDeviceType id) (idManufacturer id) (idApi id) (idDeviceNumber id))) := rfl

/-- Settles O18: the answers of the codec's commands, then the round trips of what they compute. -/
theorem identifierRoundTrips : Obligations.IdentifierRoundTrips := by
  refine ⟨fun dt mf api dn s => ⟨_, exec_idEncode dt mf api dn s, ?_⟩,
    fun id s => ⟨_, _, _, _, exec_idDecode id s, ?_⟩, fun id s => ⟨id, rfl, rfl⟩, fun s => rfl⟩
  · rw [exec_idDecode, idDeviceType_encodeId, idManufacturer_encodeId, idApi_encodeId, idDeviceNumber_encodeId]
    rfl
  · rw [exec_idEncode, encodeId_slices]
    rfl

end Sys2Proof.Machine
end

section
/-! The fields of the heartbeat buffer in its 64-bit view: a field that lies in one byte is a range of `W`, two that lie next to
each other in `W` make one range, and so each getter reads and each setter writes the range of its field (20_memory.md R62, R70,
42_heartbeat_codec.md R171 to R173). -/

namespace Sys2Proof.Machine

/-! ### One byte in `W` -/

/-- Byte `i` stands in bits `8 * (7 - i)` and up of `W` (R62). -/
theorem HBuf.getLsbD_get (h : HBuf) (i : Fin 8) {j : Nat} (hj : j < 8) :
    (h.get i).getLsbD j = h.word64.getLsbD (8 * (7 - i.val) + j) := by
  match i with
  | 0 | 1 | 2 | 3 | 4 | 5 | 6 | 7 =>
    simp only [HBuf.word64, HBuf.get, BitVec.getLsbD_append]
    grind

/-- The lowest bit of a field in `W`, the field lying in one byte (R62). -/
def lowBit (p : SingleParam) : Nat :=
  8 * (7 - p.byteIndex.val) + p.lsb.toNat

/-- The mask of a field that fits its byte is `w` ones (R137). -/
theorem getLsbD_widthMask_of_fits {p : SingleParam} {w : Nat} (fits : p.fits w = true) (k : Nat) :
    p.widthMask.getLsbD k = decide (k < w) := by
  simp only [SingleParam.fits, Bool.and_eq_true, decide_eq_true_eq] at fits
  obtain ⟨mask, room⟩ := fits
  rw [mask, maskOfWidth, getLsbD_lowMask_of_le (by omega)]

/-- A field that fits its byte ends inside it (R137). -/
theorem add_lsb_le_of_fits {p : SingleParam} {w : Nat} (fits : p.fits w = true) : w + p.lsb.toNat ≤ 8 := by
  simp only [SingleParam.fits, Bool.and_eq_true, decide_eq_true_eq] at fits
  exact fits.2

/-- `extract_single` reads `w` bits of `W` from the field's lowest one on (R62, R131). -/
theorem getLsbD_extractSingle_of_fits {p : SingleParam} {w : Nat} (fits : p.fits w = true) (h : HBuf) (k : Nat) :
    (extractSingle h p).getLsbD k = (h.word64.getLsbD (lowBit p + k) && decide (k < w)) := by
  rw [getLsbD_extractSingle, getLsbD_widthMask_of_fits fits]
  have room := add_lsb_le_of_fits fits
  by_cases hk : k < w
  · rw [h.getLsbD_get p.byteIndex (by omega), lowBit, Nat.add_assoc]
  · simp [hk]

/-- The byte that `insert_single` writes: the field's bits are the value's, the others stay (R134). -/
theorem getLsbD_insertedByte {p : SingleParam} {w : Nat} (fits : p.fits w = true) (b : Byte) (v : U32) {j : Nat} (hj : j < 8) :
    ((b &&& ~~~placeMask p) ||| insertedBits v p).getLsbD j =
      if p.lsb.toNat ≤ j ∧ j < p.lsb.toNat + w then v.getLsbD (j - p.lsb.toNat) else b.getLsbD j := by
  simp only [BitVec.getLsbD_or, BitVec.getLsbD_and, BitVec.getLsbD_not, getLsbD_placeMask, getLsbD_insertedBits,
    getLsbD_widthMask_of_fits fits]
  grind

/-- `insert_single` writes these `w` bits of `W` and no other (R62, R134). -/
theorem getLsbD_word64_insertSingle {p : SingleParam} {w : Nat} (fits : p.fits w = true) (h : HBuf) (v : U32) {k : Nat}
    (hk : k < 64) : (insertSingle h v p).word64.getLsbD k =
      if lowBit p ≤ k ∧ k < lowBit p + w then v.getLsbD (k - lowBit p) else h.word64.getLsbD k := by
  have room := add_lsb_le_of_fits fits
  obtain ⟨i, j, hj, rfl⟩ : ∃ (i : Fin 8) (j : Nat), j < 8 ∧ k = 8 * (7 - i.val) + j :=
    ⟨⟨7 - k / 8, by omega⟩, k % 8, by omega, by simp only; omega⟩
  rw [← HBuf.getLsbD_get _ i hj, ← HBuf.getLsbD_get _ i hj, get_insertSingle]
  by_cases byte : i = p.byteIndex
  · rw [if_pos byte, getLsbD_insertedByte fits _ v hj, lowBit, ← byte]
    grind
  · have outside : ¬(lowBit p ≤ 8 * (7 - i.val) + j ∧ 8 * (7 - i.val) + j < lowBit p + w) := by
      rw [lowBit]; omega
    rw [if_neg byte, if_neg outside]

/-! ### Two neighbouring ranges make one -/

theorem pairFits_iff {p : PairParam} {w : Nat} :
    p.fits w = true ↔ p.hi.fits w = true ∧ p.lo.fits p.shift.toNat = true ∧ p.disjoint w = true := by
  simp [PairParam.fits, and_assoc]

/-- Where the high part of a two-byte field continues its low part in `W`, `extract_pair` reads one range of `W` (R62,
R132). -/
theorem getLsbD_extractPair_of_fits {p : PairParam} {w : Nat} (fits : p.fits w = true)
    (adjacent : lowBit p.hi = lowBit p.lo + p.shift.toNat) (h : HBuf) {k : Nat} (hk : k < 32) :
    (extractPair h p).getLsbD k = (h.word64.getLsbD (lowBit p.lo + k) && decide (k < p.shift.toNat + w)) := by
  obtain ⟨hi, lo, -⟩ := pairFits_iff.mp fits
  simp only [extractPair, BitVec.getLsbD_or, BitVec.getLsbD_shiftLeft, BitVec.getLsbD_setWidth,
    getLsbD_extractSingle_of_fits hi, getLsbD_extractSingle_of_fits lo]
  grind

/-- And `insert_pair` writes it (R62, R135). -/
theorem getLsbD_word64_insertPair {p : PairParam} {w : Nat} (fits : p.fits w = true)
    (adjacent : lowBit p.hi = lowBit p.lo + p.shift.toNat) (h : HBuf) (v : U32) {k : Nat} (hk : k < 64) :
    (insertPair h v p).word64.getLsbD k =
      if lowBit p.lo ≤ k ∧ k < lowBit p.lo + (p.shift.toNat + w) then v.getLsbD (k - lowBit p.lo)
      else h.word64.getLsbD k := by
  obtain ⟨hi, lo, -⟩ := pairFits_iff.mp fits
  rw [insertPair, getLsbD_word64_insertSingle lo _ _ hk, getLsbD_word64_insertSingle hi _ _ hk, BitVec.getLsbD_ushiftRight]
  grind

/-! ### The fifteen fields -/

/-- A field is a range of `W`: the `w` bits from `low` on, in one byte or in two neighbouring parts (R62, R70, R171). -/
inductive IsRange : FieldLoc → (low w : Nat) → Prop
  | single (p : SingleParam) (w : Nat) (fits : p.fits w = true) : IsRange (.single p) (lowBit p) w
  | pair (p : PairParam) (w : Nat) (fits : p.fits w = true) (adjacent : lowBit p.hi = lowBit p.lo + p.shift.toNat) :
    IsRange (.pair p) (lowBit p.lo) (p.shift.toNat + w)

/-- The parameters of R171 place every field at its range of R70. -/
theorem isRange_fieldLoc (f : Field) : IsRange (fieldLoc f) (fieldLow f) (fieldWidth f) := by
  cases f with
  | minute => exact .pair _ 3 rfl rfl
  | second => exact .pair _ 5 rfl rfl
  | month | matchNumber => exact .pair _ 2 rfl rfl
  | _ => exact .single _ _ rfl

/-- The generic getter reads the field's range of `W`, zero-extended (R70, R172). -/
theorem getField_eq_extract (h : HBuf) (f : Field) :
    getField h f = (h.word64.extractLsb' (fieldLow f) (fieldWidth f)).setWidth 32 := by
  apply BitVec.eq_of_getLsbD_eq
  intro k hk
  rw [BitVec.getLsbD_setWidth, BitVec.getLsbD_extractLsb', decide_eq_true hk, Bool.true_and]
  have range := isRange_fieldLoc f
  unfold getField
  generalize fieldLoc f = loc, fieldLow f = low, fieldWidth f = w at range
  cases range with
  | single p w fits =>
    rw [BitVec.getLsbD_setWidth, decide_eq_true hk, Bool.true_and, getLsbD_extractSingle_of_fits fits, Bool.and_comm]
  | pair p w fits adjacent => rw [getLsbD_extractPair_of_fits fits adjacent h hk, Bool.and_comm]

/-- The generic setter writes the field's range of `W` and no other bit (R70, R173). -/
theorem getLsbD_word64_setField (h : HBuf) (f : Field) (v : U32) {k : Nat} (hk : k < 64) :
    (setField h f v).word64.getLsbD k =
      if fieldLow f ≤ k ∧ k < fieldLow f + fieldWidth f then v.getLsbD (k - fieldLow f) else h.word64.getLsbD k := by
  have range := isRange_fieldLoc f
  unfold setField
  generalize fieldLoc f = loc, fieldLow f = low, fieldWidth f = w at range
  cases range with
  | single p w fits => exact getLsbD_word64_insertSingle fits h v hk
  | pair p w fits adjacent => exact getLsbD_word64_insertPair fits adjacent h v hk

/-! ### The commands -/

/-- A getter command is the generic getter of its field (R172). -/
theorem exec_getter (f : Field) (s : State) : exec f.getter s = .next (readField f s) := by
  cases f <;> rfl

/-- A setter command is the generic setter of its field (R173). -/
theorem exec_setter (f : Field) (v : U32) (s : State) : exec (f.setter v) s = .next (writeField f v s) := by
  cases f <;> rfl

/-- Settles O19: the getter answers its field, which is its range of `W`. -/
theorem gettersReadTheirRange : Obligations.GettersReadTheirRange := by
  intro f s
  rw [exec_getter, readField_eq, getField_eq_extract]
  rfl

/-- Settles O24: the setter writes the generic setter's buffer, whose bits are known. -/
theorem settersWriteTheirRange : Obligations.SettersWriteTheirRange := fun f v s =>
  ⟨setField s.hb f v, exec_setter f v s, fun _ hk => getLsbD_word64_setField s.hb f v hk⟩

end Sys2Proof.Machine
end

section
/-! Decode and encode: every command comes back from its word, a word that decodes is its command's encoding but for the bits
the command ignores, and an opcode outside the map selects no command (30_encoding.md R90 to R92, R100 to R108, R112, R113). -/

namespace Sys2Proof

/-- Decoding reads each command back from its own fields (R100 to R108). -/
theorem decodeCmd_encodeCmd (i : Instr) : decodeCmd (encodeCmd i) = .ok i := by
  cases i with
  | xs _ | is _ _ => simp only [decodeCmd, encodeCmd, unpackSingle_packSingle]
  | xp _ | ip _ _ => simp only [decodeCmd, encodeCmd, unpackPair_packPair]
  | _ => rfl

/-- Settles O3: the word's fields are those the encoder wrote, and the operand packings lose nothing. -/
theorem decodeOfEncode : Obligations.DecodeOfEncode := fun i =>
  (decode_encode_eq_decodeCmd i).trans (decodeCmd_encodeCmd i)

/-! ### The bits a command ignores -/

/-- The fields of a command word under a mask for each. -/
def Cmd.and (c m : Cmd) : Cmd :=
  ⟨c.op &&& m.op, c.a0 &&& m.a0, c.a1 &&& m.a1, c.a2 &&& m.a2, c.a3 &&& m.a3⟩

/-- Masking a word is masking its fields (R90). -/
theorem Cmd.toWord_and (c m : Cmd) : (c.and m).toWord = c.toWord &&& m.toWord := by
  simp only [Cmd.and, Cmd.toWord, ← BitVec.and_append]

/-- A full mask leaves its operand word as it is. -/
theorem and_fullMask (a : U32) : a &&& 0xFFFFFFFF#32 = a := BitVec.and_allOnes

/-- An empty mask leaves nothing of its operand word. -/
theorem and_emptyMask (a : U32) : a &&& 0 = 0 := BitVec.and_zero

/-- A full mask leaves the opcode as it is. -/
theorem and_fullOpcodeMask (op : Byte) : op &&& 0xFF#8 = op := BitVec.and_allOnes

/-- What decodes to a command carries that command's opcode (R108). -/
theorem op_of_decodeCmd {c : Cmd} {i : Instr} (h : decodeCmd c = .ok i) : c.op = (encodeCmd i).op := by
  unfold decodeCmd at h
  split at h <;> cases h <;> assumption

/-- What decodes to a command has that command's fields, the bits it ignores left out (R92, R113). -/
theorem encodeCmd_of_decodeCmd {c : Cmd} {i : Instr} (h : decodeCmd c = .ok i) : encodeCmd i = c.and (usedFields i) := by
  obtain ⟨op, a0, a1, a2, a3⟩ := c
  have hop : op = (encodeCmd i).op := op_of_decodeCmd h
  cases i
  all_goals
    dsimp only [encodeCmd] at hop
    subst hop
    cases h
    simp only [encodeCmd, usedFields, Cmd.and, packSingle_unpackSingle, packPair_unpackPair, and_fullMask,
      and_emptyMask, and_fullOpcodeMask]

/-- A word that decodes is its command's encoding but for the ignored bits (R92, R113). -/
theorem encode_of_decode {w : PortWord} {i : Instr} (h : decode w = .ok i) : encode i = w &&& usedBits i := by
  rw [encode, encodeCmd_of_decodeCmd h, Cmd.toWord_and, Cmd.toWord_ofWord, usedBits]

/-- Settles O4: the word without its ignored bits is the encoding, which decodes to the command. -/
theorem ignoredBitsHaveNoEffect : Obligations.IgnoredBitsHaveNoEffect :=
  ⟨fun _ _ => encode_of_decode, fun _ i h => encode_of_decode h ▸ decodeOfEncode i⟩

/-! ### Opcodes outside the map -/

section
open Laws.OpcodeListed

/-- The opcode of every command is listed and names its unit: the commands one by one (R91, R108). -/
theorem opcodeListed : (i : Instr) → Statement i
  | .xs p => xs p
  | .is p v => is p v
  | .xp p => xp p
  | .ip p v => ip p v
  | .idEncode dt mf api dn => idEncode dt mf api dn
  | .idDecode id => idDecode id
  | .idFromRaw id => idFromRaw id
  | .hbGetHour => hbGetHour
  | .hbGetMinute => hbGetMinute
  | .hbGetSecond => hbGetSecond
  | .hbGetDay => hbGetDay
  | .hbGetMonth => hbGetMonth
  | .hbGetYear => hbGetYear
  | .hbGetTournamentType => hbGetTournamentType
  | .hbGetSystemWatchdog => hbGetSystemWatchdog
  | .hbGetTestMode => hbGetTestMode
  | .hbGetAutonomous => hbGetAutonomous
  | .hbGetEnabled => hbGetEnabled
  | .hbGetRedAlliance => hbGetRedAlliance
  | .hbGetReplayNumber => hbGetReplayNumber
  | .hbGetMatchNumber => hbGetMatchNumber
  | .hbGetMatchTimeSeconds => hbGetMatchTimeSeconds
  | .hbClear => hbClear
  | .hbLoad w0 w1 => hbLoad w0 w1
  | .hbRead => hbRead
  | .hbSetHour v => hbSetHour v
  | .hbSetMinute v => hbSetMinute v
  | .hbSetSecond v => hbSetSecond v
  | .hbSetDay v => hbSetDay v
  | .hbSetMonth v => hbSetMonth v
  | .hbSetYear v => hbSetYear v
  | .hbSetTournamentType v => hbSetTournamentType v
  | .hbSetSystemWatchdog v => hbSetSystemWatchdog v
  | .hbSetTestMode v => hbSetTestMode v
  | .hbSetAutonomous v => hbSetAutonomous v
  | .hbSetEnabled v => hbSetEnabled v
  | .hbSetRedAlliance v => hbSetRedAlliance v
  | .hbSetReplayNumber v => hbSetReplayNumber v
  | .hbSetMatchNumber v => hbSetMatchNumber v
  | .hbSetMatchTimeSeconds v => hbSetMatchTimeSeconds v
  | .regHandler id hid => regHandler id hid
  | .regRtrHandler id hid => regRtrHandler id hid
  | .regUnmatched hid => regUnmatched hid
  | .regTimeout hid => regTimeout hid
  | .regIteration hid => regIteration hid
  | .step => step

end

/-- A word whose opcode is not listed selects no command (R112). -/
theorem decode_error_of_unlisted {w : PortWord} (h : listedOpcodes.contains (w.extractLsb' 128 8) = false) :
    ∃ e, decode w = .error e := by
  cases hd : decode w with
  | error e => exact ⟨e, rfl⟩
  | ok i =>
    have op : w.extractLsb' 128 8 = (encodeCmd i).op := op_of_decodeCmd hd
    obtain ⟨listed, -⟩ := opcodeListed i
    rw [Cmd.wellFormed] at listed
    rw [op, listed] at h
    cases h

/-- The opcodes that R108 leaves out, as R112 lists their ranges. -/
theorem unlisted_iff : ∀ op : Byte, listedOpcodes.contains op = false ↔
    op = 0x8F#8 ∨ op = 0xAF#8 ∨ (0x93 ≤ op.toNat ∧ op.toNat ≤ 0x9F) ∨ (0xC5 ≤ op.toNat ∧ op.toNat ≤ 0xC7) ∨
      (0xC9 ≤ op.toNat ∧ op.toNat ≤ 0xFF) ∨ (0x04 ≤ op.toNat ∧ op.toNat ≤ 0x3F) ∨
      (0x43 ≤ op.toNat ∧ op.toNat ≤ 0x7F) ∨ (0xB0 ≤ op.toNat ∧ op.toNat ≤ 0xBF) := by
  intro op
  have bound := op.isLt
  simp [listedOpcodes, ← BitVec.toNat_inj]
  omega

/-- Settles O5: an unlisted opcode does not decode, and either port's equation of `step` then gives `BADOP`. -/
theorem unlistedOpcodeAnswersBadop : Obligations.UnlistedOpcodeAnswersBadop := by
  refine ⟨unlisted_iff, fun s w rest unlisted hr ha hc => ?_, fun s w req rest unlisted hr ha hc => ?_⟩
  all_goals obtain ⟨e, he⟩ := decode_error_of_unlisted unlisted
  · rw [Machine.step_of_hostWord hr ha hc, Machine.runWord_of_decode_error he, Machine.refusedRsp]
  · rw [Machine.step_of_callbackWord hr ha hc, Machine.runWord_of_decode_error he, Machine.refusedRsp]

/-- Settles O1: each word, written out, is evaluated by the decoder. -/
theorem writtenWordsDecode : Obligations.WrittenWordsDecode :=
  ⟨rfl, rfl, rfl, rfl, rfl, rfl, rfl, rfl, rfl, rfl, rfl, rfl⟩

/-- Settles O2: the pair of each command is a row of the table; its unit's code is part of `opcodeListed`. -/
theorem opcodeMapIsListed : Obligations.OpcodeMapIsListed := fun i => by
  obtain ⟨-, unit⟩ := opcodeListed i
  refine ⟨?_, unit⟩
  cases i <;> exact List.mem_of_elem_eq_true rfl

end Sys2Proof
end

section
/-! The frame record of the ports, the fields' commands as primitives, and the buffer stored and read back (30_encoding.md R96,
R105, R117, 42_heartbeat_codec.md R171, R206, R207). -/

namespace Sys2Proof.Machine

/-! ### The frame record (R96) -/

/-- A one-bit field has its flag in bit 0. -/
theorem getLsbD_bit (b : Bool) (k : Nat) : (bit b).getLsbD k = (decide (k = 0) && b) := by
  cases b <;> simp [bit]

/-- The frame is read back from its record. -/
@[simp] theorem CanFrame.ofBits_toBits (f : CanFrame) : CanFrame.ofBits f.toBits = f := by
  obtain ⟨identifier, extended, isRemoteRequest, len, data⟩ := f
  simp only [CanFrame.ofBits, CanFrame.toBits, CanFrame.mk.injEq]
  refine ⟨?_, ?_, ?_, ?_, ?_⟩
  case refine_2 | refine_3 =>
    simp only [BitVec.getLsbD_append, getLsbD_bit]
    grind
  all_goals
    ext k hk
    simp only [BitVec.getElem_extractLsb', BitVec.getLsbD_append]
    grind

/-- The record is rebuilt from its frame: its five fields are all of it. -/
@[simp] theorem CanFrame.toBits_ofBits (w : BitVec 102) : (CanFrame.ofBits w).toBits = w := by
  apply BitVec.eq_of_getLsbD_eq
  intro k hk
  simp only [CanFrame.toBits, CanFrame.ofBits, BitVec.getLsbD_append, BitVec.getLsbD_extractLsb', getLsbD_bit]
  grind

/-- Settles O8: the fields of the record are those of the frame read back from it. -/
theorem frameRecordLayout : Obligations.FrameRecordLayout := by
  refine ⟨fun f => ?_, CanFrame.ofBits_toBits, CanFrame.toBits_ofBits⟩
  have h := f.ofBits_toBits
  exact ⟨congrArg CanFrame.identifier h, congrArg CanFrame.extended h, congrArg CanFrame.isRemoteRequest h,
    congrArg CanFrame.len h, congrArg CanFrame.data h⟩

/-! ### The fields' commands are primitives (R117, R171) -/

/-- The primitive extraction with a field's parameters is the generic getter of the field (R172). -/
theorem exec_fieldExtract (f : Field) (s : State) : exec (fieldExtract f) s = .next (readField f s) := by
  unfold readField getField fieldExtract
  cases fieldLoc f <;> rfl

/-- The primitive insertion with a field's parameters is the generic setter of the field (R173). -/
theorem exec_fieldInsert (f : Field) (v : U32) (s : State) : exec (fieldInsert f v) s = .next (writeField f v s) := by
  unfold writeField setField fieldInsert
  cases fieldLoc f <;> rfl

/-- The primitive extraction of a field carries the field's parameter word (R171). -/
theorem encodeCmd_fieldExtract_a0 (f : Field) : (encodeCmd (fieldExtract f)).a0 = paramWord f := by
  unfold fieldExtract paramWord
  cases fieldLoc f <;> rfl

/-- Settles O27: both sides are the generic getter or setter; the fifteen words are the packed parameters, evaluated. -/
theorem fieldCommandsArePrimitives : Obligations.FieldCommandsArePrimitives :=
  ⟨fun f s => (exec_getter f s).trans (exec_fieldExtract f s).symm,
   fun f v s => (exec_setter f v s).trans (exec_fieldInsert f v s).symm,
   encodeCmd_fieldExtract_a0, rfl, rfl, rfl, rfl, rfl, rfl, rfl, rfl, rfl, rfl, rfl, rfl, rfl, rfl, rfl⟩

/-! ### The buffer stored and read back (R105, R206, R207) -/

/-- A word is its four bytes. -/
theorem append_bytes (a : U32) :
    a.extractLsb' 24 8 ++ a.extractLsb' 16 8 ++ a.extractLsb' 8 8 ++ a.extractLsb' 0 8 = a := by
  apply BitVec.eq_of_getLsbD_eq
  intro k hk
  simp only [BitVec.getLsbD_append, BitVec.getLsbD_extractLsb']
  grind

@[simp] theorem HBuf.word0_ofWords (a0 a1 : U32) : (HBuf.ofWords a0 a1).word0 = a0 := append_bytes a0

@[simp] theorem HBuf.word1_ofWords (a0 a1 : U32) : (HBuf.ofWords a0 a1).word1 = a1 := append_bytes a1

/-- `HB_LOAD` stores the buffer of its two words (R206). -/
theorem exec_hbLoad (a0 a1 : U32) (s : State) :
    exec (.hbLoad a0 a1) s = .next ((s.withHb (HBuf.ofWords a0 a1)).respond okOnly) := rfl

/-- `HB_READ` answers the buffer's two words (R207). -/
theorem exec_hbRead (s : State) : exec .hbRead s = .next (s.respond (okRsp s.hb.word0 s.hb.word1 0 0)) := rfl

/-- Settles O29: buffer and word pair determine each other. -/
theorem readAfterLoad : Obligations.ReadAfterLoad := by
  refine ⟨fun a0 a1 s => ⟨_, exec_hbLoad a0 a1 s, ?_⟩, fun s => ?_⟩
  · rw [exec_hbRead, State.respond_hb, State.withHb_hb, HBuf.word0_ofWords, HBuf.word1_ofWords, okRsp]
  · rw [exec_hbLoad, HBuf.ofWords_words]
    rfl

end Sys2Proof.Machine
end

section
/-! Callback entry, callback return and callback failure: what one answer of the environment makes of a `STEP`, where the answer
begins, ends or breaks off an invocation (43_dispatcher.md R245, R250, R251, 60_exceptions.md R304, R306). -/

namespace Sys2Proof.Machine

/-! ### Callback entry -/

/-- The callback agent has nothing to do, or first issues a command of its own: then the block waits in its invocation (R41). -/
theorem advance_enterCallback {s : State} (req : CbRequest)
    (agent : s.cbDue = [] ∨ ∃ (w : PortWord) (rest : List CbEvent), s.cbDue = .command w :: rest) :
    advance (enterCallback req s) = none := by
  obtain e | ⟨w, rest, e⟩ := agent <;> simp [advance, enterCallback, e]

/-- A `STEP` begun in `IDLE` takes the transport's answer and goes on from there (R245). -/
theorem exec_step_of_received {s : State} {r : RecvResponse} {rx : List RecvResponse} (idle : s.phase = .idle)
    (due : s.rxDue = r :: rx) :
    exec .step s = .next (resume (received r.meaning ((beginStep s).takeRx rx))) := by
  have first : advance (beginStep s) = some (received r.meaning ((beginStep s).takeRx rx)) := by
    simp [advance, beginStep, due]
  rw [exec, execStep, guarded_idle idle, resume_of_advance first]

/-- Where the answer leads to a callback whose agent does not answer at once, the `STEP` stops at the invocation (R304). -/
theorem exec_step_of_entered {s t : State} {r : RecvResponse} {rx : List RecvResponse} {req : CbRequest}
    (idle : s.phase = .idle) (due : s.rxDue = r :: rx)
    (entered : received r.meaning ((beginStep s).takeRx rx) = enterCallback req t)
    (agent : t.cbDue = [] ∨ ∃ (w : PortWord) (rest : List CbEvent), t.cbDue = .command w :: rest) :
    exec .step s = .next (enterCallback req t) := by
  rw [exec_step_of_received idle due, entered, resume_of_waiting (advance_enterCallback req agent)]

/-- A received frame enters the callback it is routed to, with the frame (R246). -/
theorem received_some_of_route {s : State} {f : CanFrame} {k : CbKind} {h : U32} (routed : route s f = some (k, h)) :
    received (some f) s =
      enterCallback ⟨k, h, some f⟩ (((s.log (.recv (some f))).withPhase .dispatch).withCur f) := by
  have routed' : route (s.log (.recv (some f))) f = some (k, h) := routed
  simp only [received, handleFrame, routed']

/-- The first receive answered `None` enters the timeout-handler when one is set (R248). -/
theorem received_none_of_tmo {s : State} (wait : s.phase = .wait) (valid : s.tmo.valid = true) :
    received none s = enterCallback ⟨.timeout, s.tmo.hid, none⟩ ((s.log (.recv none)).withPhase .tmout) := by
  simp [received, handleTimeout, wait, valid]

/-- The first receive answered `None`, with no timeout-handler set, enters the first iteration callback (R248, R249). -/
theorem received_none_of_iter {s : State} {h : U32} {rest : List U32} (wait : s.phase = .wait)
    (invalid : s.tmo.valid = false) (iter : s.iter = h :: rest) :
    received none s = enterCallback ⟨.iter, h, none⟩
      ((((s.log (.recv none)).withPhase .tmout).withPhase .iterate).withIterIdx 0) := by
  simp [received, handleTimeout, enterIteration, callIteration, wait, invalid, iter]

/-- Settles O43: the callback that the transport's answer leads to, in each of the three cases. -/
theorem callbackEntryPresentsRequest : Obligations.CallbackEntryPresentsRequest := by
  intro s r rx idle due agent
  refine ⟨fun k h hasFrame routed => ?_, fun noFrame valid => ?_, fun h rest noFrame invalid iter => ?_⟩
  · have frameMeant : r.meaning = some r.frame := by simp [RecvResponse.meaning, hasFrame]
    exact exec_step_of_entered idle due ((congrArg (received · _) frameMeant).trans (received_some_of_route routed)) agent
  · have noneMeant : r.meaning = none := by simp [RecvResponse.meaning, noFrame]
    exact exec_step_of_entered idle due ((congrArg (received · _) noneMeant).trans (received_none_of_tmo rfl valid)) agent
  · have noneMeant : r.meaning = none := by simp [RecvResponse.meaning, noFrame]
    exact exec_step_of_entered idle due ((congrArg (received · _) noneMeant).trans (received_none_of_iter rfl invalid iter)) agent

/-! ### Callback return -/

/-- The outstanding invocation answers (R250, R251). -/
theorem advance_of_answer {s : State} {req : CbRequest} {r : CbResponse} {rest : List CbEvent}
    (ha : s.await = .callback req) (hc : s.cbDue = .answer r :: rest) :
    advance s = some (callbackAnswered req r.meaning (s.takeCb rest)) := by
  simp [advance, ha, hc]

/-- The machine's step then goes on from what the answer made (R244). -/
theorem step_of_answer {s : State} {req : CbRequest} {r : CbResponse} {rest : List CbEvent} (noReset : s.resetReq = false)
    (ha : s.await = .callback req) (hc : s.cbDue = .answer r :: rest) :
    step s = .next (resume (callbackAnswered req r.meaning (s.takeCb rest))) := by
  have waits : AwaitsAnswer s := ⟨noReset, by simp [ha], fun _ _ _ _ => by simp [hc]⟩
  rw [waits.step_eq, resume_of_advance (advance_of_answer ha hc)]

/-- An answer without a fault is the returned frame, or none (R97). -/
theorem CbResponse.meaning_of_noFault {r : CbResponse} (noFault : r.fault = false) :
    r.meaning = .ret (if r.hasFrame then some r.frame else none) := by
  cases h : r.hasFrame <;> simp [CbResponse.meaning, noFault, h]

/-- A returned invocation adds its events, the `Send` of the returned frame as its kind says (R250, R262). -/
theorem callbackAnswered_ret_trace (req : CbRequest) (g : Option CanFrame) (s : State) :
    (callbackAnswered req (.ret g) s).trace = s.trace ++ callEvents s.cfg req g := by
  obtain ⟨trace, -⟩ := silent_afterCallback (sendReturned req.kind g (s.log (.invoke req (.ret g))))
  rw [callbackAnswered, trace]
  cases g with
  | none => simp [sendReturned, callEvents]
  | some f =>
    cases hk : req.kind with
    | data | rtr | iter => simp [sendReturned, callEvents, sendEnabled, hk]
    | unmatched | timeout => cases h : s.cfg.fallbackSends <;> simp [sendReturned, callEvents, sendEnabled, hk, h]

/-- The iteration phase goes on or ends the `STEP`; it does not fail (R249). -/
theorem callIteration_phase (s : State) : (callIteration s).phase = s.phase ∨ (callIteration s).phase = .idle := by
  unfold callIteration
  split
  · exact .inl rfl
  · exact .inr rfl

theorem callIteration_phase_ne_faulted {s : State} (h : s.phase ≠ .faulted) : (callIteration s).phase ≠ .faulted := by
  obtain e | e := callIteration_phase s <;> simp [e, h]

/-- What follows a callback that returned does not fail (R250). -/
theorem afterCallback_phase_ne_faulted {s : State} (h : s.phase ≠ .faulted) : (afterCallback s).phase ≠ .faulted := by
  unfold afterCallback
  split
  · unfold afterFrame
    split
    · exact h
    · exact callIteration_phase_ne_faulted (by simp)
  · exact callIteration_phase_ne_faulted (by simp)
  · exact callIteration_phase_ne_faulted h
  · exact h

/-- Settles O44: the answer makes the state that `callbackAnswered` describes; its frame is that of every `advance`. -/
theorem callbackReturnSends : Obligations.CallbackReturnSends := by
  intro s req r rest good noReset ha hc noFault
  have ret := CbResponse.meaning_of_noFault noFault
  have adv := advance_of_answer ha hc
  have same := advance_frame adv
  have ports := sameBut_callbackAnswered req r.meaning (s.takeCb rest)
  have notFaulted : s.phase ≠ .faulted := by
    obtain h | h | h := phase_of_callback good.port ha <;> simp [h]
  refine ⟨_, adv, step_of_answer noReset ha hc, ?_, ?_, same.hb, same.routing, ?_, ports.rx, ports.pend⟩
  · rw [ret]
    exact callbackAnswered_ret_trace req _ (s.takeCb rest)
  · rw [ret]
    exact afterCallback_phase_ne_faulted (by simpa using notFaulted)
  · rw [State.cbDue, ports.cb, ports.late]
    rfl

/-! ### Callback failure -/

/-- Settles O49: the failing answer leaves no request outstanding, so the `STEP` stops there. -/
theorem callbackFailureEndsStep : Obligations.CallbackFailureEndsStep := by
  intro s req r rest noReset ha hc fault
  have meaning : r.meaning = .fault := by simp [CbResponse.meaning, fault]
  rw [step_of_answer noReset ha hc, meaning, callbackAnswered, resume_of_waiting rfl]
  rfl

end Sys2Proof.Machine
end

section
/-! The four bit-field primitives as commands: their results as numbers, the bits they write, and the laws that join extraction and
insertion (40_bitfield_primitives.md R131, R132, R134, R135, R137). -/

namespace Sys2Proof.Machine

/-! ### What the primitives read, as numbers -/

/-- `extract_single` divides the addressed byte and masks it (R131). -/
theorem toNat_extractSingle (h : HBuf) (p : SingleParam) :
    (extractSingle h p).toNat = ((h.get p.byteIndex).toNat / 2 ^ p.lsb.toNat) &&& p.widthMask.toNat := by
  rw [extractSingle, BitVec.toNat_and, BitVec.toNat_ushiftRight, Nat.shiftRight_eq_div_pow]

/-- The high field, at most 8 bits, moved up by at most 15 (R132). -/
theorem extractSingle_mul_shift_lt (h : HBuf) (p : SingleParam) (shift : BitVec 4) :
    (extractSingle h p).toNat * 2 ^ shift.toNat < 2 ^ 23 :=
  calc (extractSingle h p).toNat * 2 ^ shift.toNat
      < 2 ^ 8 * 2 ^ shift.toNat := Nat.mul_lt_mul_of_pos_right (extractSingle h p).isLt (Nat.two_pow_pos _)
    _ ≤ 2 ^ 8 * 2 ^ 15 := Nat.mul_le_mul_left _ (Nat.pow_le_pow_right (by decide) (by have := shift.isLt; omega))
    _ = 2 ^ 23 := by decide

/-- `extract_pair` joins its two fields; the shift drops no bit (R132). -/
theorem toNat_extractPair (h : HBuf) (p : PairParam) :
    (extractPair h p).toNat = (extractSingle h p.hi).toNat * 2 ^ p.shift.toNat ||| (extractSingle h p.lo).toNat := by
  have bound := extractSingle_mul_shift_lt h p.hi p.shift
  rw [extractPair, BitVec.toNat_or, BitVec.toNat_shiftLeft, BitVec.toNat_setWidth_of_le (by decide),
    BitVec.toNat_setWidth_of_le (by decide), Nat.shiftLeft_eq, Nat.mod_eq_of_lt (by omega)]

/-- At most 23 bits of a joined field are significant (R132). -/
theorem toNat_extractPair_lt (h : HBuf) (p : PairParam) : (extractPair h p).toNat < 2 ^ 23 := by
  rw [toNat_extractPair]
  exact Nat.or_lt_two_pow (extractSingle_mul_shift_lt h p.hi p.shift) (by have := (extractSingle h p.lo).isLt; omega)

/-! ### What the primitives write, bit by bit -/

/-- Bit `k` of byte `i` belongs to the field: the mask, moved up by `lsb`, has it (R134). -/
abbrev InField (p : SingleParam) (i : Fin 8) (k : Nat) : Prop :=
  i = p.byteIndex ∧ p.lsb.toNat ≤ k ∧ p.widthMask.getLsbD (k - p.lsb.toNat) = true

/-- `insert_single` writes the value's bits to the field and no other bit, whatever the mask is (R134). -/
theorem getLsbD_insertSingle (h : HBuf) (v : U32) (p : SingleParam) (i : Fin 8) {k : Nat} (hk : k < 8) :
    ((insertSingle h v p).get i).getLsbD k =
      if InField p i k then v.getLsbD (k - p.lsb.toNat) else (h.get i).getLsbD k := by
  rw [get_insertSingle]
  by_cases byte : i = p.byteIndex
  · rw [if_pos byte, BitVec.getLsbD_or, BitVec.getLsbD_and, BitVec.getLsbD_not, getLsbD_placeMask, getLsbD_insertedBits]
    grind
  · rw [if_neg byte, if_neg fun inField => byte inField.1]

/-- `insert_pair` writes the low field from the value and, where the low field is not, the high field from the value shifted right
(R135, D9). -/
theorem getLsbD_insertPair (h : HBuf) (v : U32) (p : PairParam) (i : Fin 8) {k : Nat} (hk : k < 8) :
    ((insertPair h v p).get i).getLsbD k =
      if InField p.lo i k then v.getLsbD (k - p.lo.lsb.toNat)
      else if InField p.hi i k then v.getLsbD (p.shift.toNat + (k - p.hi.lsb.toNat))
      else (h.get i).getLsbD k := by
  rw [insertPair, getLsbD_insertSingle _ _ _ _ hk, getLsbD_insertSingle _ _ _ _ hk, BitVec.getLsbD_ushiftRight]

/-- A bit of a joined field is one of the high field, moved up, or one of the low field (R132). -/
theorem getLsbD_extractPair (h : HBuf) (p : PairParam) {k : Nat} (hk : k < 32) :
    (extractPair h p).getLsbD k =
      ((decide (p.shift.toNat ≤ k) && (extractSingle h p.hi).getLsbD (k - p.shift.toNat)) ||
        (extractSingle h p.lo).getLsbD k) := by
  simp only [extractPair, BitVec.getLsbD_or, BitVec.getLsbD_shiftLeft, BitVec.getLsbD_setWidth]
  grind

/-! ### Extraction against insertion (R137) -/

/-- A field that fits its byte has `w` neighbouring bits. -/
theorem inField_iff_of_fits {p : SingleParam} {w : Nat} (fits : p.fits w = true) (i : Fin 8) (k : Nat) :
    InField p i k ↔ i = p.byteIndex ∧ p.lsb.toNat ≤ k ∧ k < p.lsb.toNat + w := by
  rw [InField, getLsbD_widthMask_of_fits fits, decide_eq_true_eq]
  grind

/-- A field that fits its byte reads back what was inserted, masked. -/
theorem extractSingle_insertSingle_same {p : SingleParam} {w : Nat} (fits : p.fits w = true) (h : HBuf) (v : U32) (k : Nat) :
    (extractSingle (insertSingle h v p) p).getLsbD k = (v.getLsbD k && decide (k < w)) := by
  rw [getLsbD_extractSingle, getLsbD_widthMask_of_fits fits]
  by_cases hk : k < w
  · have room := add_lsb_le_of_fits fits
    have inField : InField p p.byteIndex (p.lsb.toNat + k) := (inField_iff_of_fits fits _ _).mpr ⟨rfl, by omega, by omega⟩
    rw [getLsbD_insertSingle _ _ _ _ (by omega), if_pos inField, Nat.add_sub_cancel_left]
  · simp [hk]

/-- Inserting one field leaves another as it reads, when the two share no bit. -/
theorem extractSingle_insertSingle_apart {p q : SingleParam} (h : HBuf) (v : U32)
    (apart : ∀ i k, InField q i k → ¬ InField p i k) : extractSingle (insertSingle h v p) q = extractSingle h q := by
  apply BitVec.eq_of_getLsbD_eq
  intro k _
  rw [getLsbD_extractSingle, getLsbD_extractSingle]
  cases mask : q.widthMask.getLsbD k with
  | false => simp
  | true =>
    have inField : InField q q.byteIndex (q.lsb.toNat + k) := ⟨rfl, by omega, by rwa [Nat.add_sub_cancel_left]⟩
    by_cases inByte : q.lsb.toNat + k < 8
    · rw [getLsbD_insertSingle _ _ _ _ inByte, if_neg (apart _ _ inField)]
    · rw [BitVec.getLsbD_of_ge _ _ (by omega), BitVec.getLsbD_of_ge _ _ (by omega)]

/-- Inserting a value that agrees with the field under its mask changes nothing. -/
theorem insertSingle_eq_self {h : HBuf} {v : U32} {p : SingleParam}
    (agree : ∀ k, p.widthMask.getLsbD k = true → v.getLsbD k = (extractSingle h p).getLsbD k) : insertSingle h v p = h := by
  apply HBuf.ext_get
  intro i
  apply BitVec.eq_of_getLsbD_eq
  intro k hk
  rw [getLsbD_insertSingle _ _ _ _ hk]
  split
  · next inField =>
    obtain ⟨byte, above, mask⟩ := inField
    rw [agree _ mask, getLsbD_extractSingle, mask, Bool.and_true, Nat.add_sub_cancel' above, byte]
  · rfl

/-- The halves of a two-byte field that fits share no bit of the buffer. -/
theorem not_inField_lo_of_inField_hi {p : PairParam} {w : Nat} (fits : p.fits w = true) (i : Fin 8) (k : Nat)
    (inHi : InField p.hi i k) : ¬ InField p.lo i k := by
  obtain ⟨hi, lo, disjoint⟩ := pairFits_iff.mp fits
  obtain ⟨byte, above, below⟩ := (inField_iff_of_fits hi i k).mp inHi
  rw [inField_iff_of_fits lo]
  rintro ⟨byte', above', below'⟩
  simp only [PairParam.disjoint, Bool.or_eq_true, decide_eq_true_eq] at disjoint
  obtain (((differ | empty) | empty) | apart) | apart := disjoint
  · exact differ (byte.symm.trans byte')
  · omega
  · have noLow : p.shift.toNat = 0 := by rw [empty]; rfl
    omega
  · omega
  · omega

/-- A two-byte field that fits reads back what was inserted, masked: its low bits from the low byte, the others from the high
byte. -/
theorem extractPair_insertPair {p : PairParam} {w : Nat} (fits : p.fits w = true) (h : HBuf) (v : U32) {k : Nat} (hk : k < 32) :
    (extractPair (insertPair h v p) p).getLsbD k = (v.getLsbD k && decide (k < w + p.shift.toNat)) := by
  obtain ⟨hi, lo, -⟩ := pairFits_iff.mp fits
  rw [getLsbD_extractPair _ _ hk, insertPair, extractSingle_insertSingle_same lo,
    extractSingle_insertSingle_apart _ _ (not_inField_lo_of_inField_hi fits), extractSingle_insertSingle_same hi,
    BitVec.getLsbD_ushiftRight]
  by_cases inHi : p.shift.toNat ≤ k
  · have notLo : ¬ k < p.shift.toNat := by omega
    have sameWidth : k - p.shift.toNat < w ↔ k < w + p.shift.toNat := by omega
    simp [inHi, notLo, sameWidth]
  · have inLo : k < p.shift.toNat := by omega
    have inPair : k < w + p.shift.toNat := by omega
    simp [inHi, inLo, inPair]

/-- Inserting a two-byte field that fits as it reads changes nothing: either half is written as it stands. -/
theorem insertPair_extractPair {p : PairParam} {w : Nat} (fits : p.fits w = true) (h : HBuf) :
    insertPair h (extractPair h p) p = h := by
  obtain ⟨hi, lo, -⟩ := pairFits_iff.mp fits
  have hiSelf : insertSingle h (extractPair h p >>> p.shift.toNat) p.hi = h := by
    refine insertSingle_eq_self fun k mask => ?_
    have inMask : k < 8 := BitVec.lt_of_getLsbD mask
    have aboveLo : (extractSingle h p.lo).getLsbD (p.shift.toNat + k) = false := by
      rw [getLsbD_extractSingle, getLsbD_widthMask_of_fits lo]
      simp
    rw [BitVec.getLsbD_ushiftRight, getLsbD_extractPair _ _ (by omega), aboveLo]
    simp
  rw [insertPair, hiSelf]
  refine insertSingle_eq_self fun k mask => ?_
  have inMask : k < p.shift.toNat := by simpa [getLsbD_widthMask_of_fits lo] using mask
  rw [getLsbD_extractPair _ _ (by omega), decide_eq_false (by omega), Bool.false_and, Bool.false_or]

/-! ### The obligations -/

/-- Settles O9: the answer is `extract_single` of the buffer, zero-extended. -/
theorem xsReadsField : Obligations.XsReadsField := fun p s =>
  ⟨rfl, _, rfl, by rw [BitVec.toNat_setWidth_of_le (by decide), toNat_extractSingle]⟩

/-- Settles O10: the answer is `extract_pair` of the buffer, its two fields as numbers. -/
theorem xpJoinsTwoFields : Obligations.XpJoinsTwoFields := fun p s =>
  ⟨rfl, _, rfl, by rw [toNat_extractPair, toNat_extractSingle, toNat_extractSingle], toNat_extractPair_lt s.hb p⟩

/-- Settles O11: the new buffer is that of `insert_single`, whose bits are known. -/
theorem isWritesField : Obligations.IsWritesField := fun p v s =>
  ⟨rfl, insertSingle s.hb v p, rfl, fun i _ hk => getLsbD_insertSingle s.hb v p i hk⟩

/-- Settles O12: the new buffer is that of `insert_pair`, whose bits are known. -/
theorem ipWritesTwoFields : Obligations.IpWritesTwoFields := fun p v s =>
  ⟨rfl, insertPair s.hb v p, rfl, fun i _ hk => getLsbD_insertPair s.hb v p i hk⟩

/-- Settles O13: the three laws, each bit by bit; a field that fits is `w` neighbouring bits of its byte. -/
theorem singleFieldLaws : Obligations.SingleFieldLaws := by
  intro p w fits h v
  refine ⟨?_, fun i k outside => ?_, ?_⟩
  · apply BitVec.eq_of_getLsbD_eq
    intro k hk
    rw [BitVec.getLsbD_setWidth, BitVec.getLsbD_and, BitVec.getLsbD_setWidth, extractSingle_insertSingle_same fits,
      getLsbD_widthMask_of_fits fits]
    grind
  · by_cases hk : k < 8
    · rw [getLsbD_insertSingle _ _ _ _ hk, if_neg (mt (inField_iff_of_fits fits i k).mp outside)]
    · rw [BitVec.getLsbD_of_ge _ _ (by omega), BitVec.getLsbD_of_ge _ _ (by omega)]
  · refine insertSingle_eq_self fun k mask => ?_
    have inMask : k < 8 := BitVec.lt_of_getLsbD mask
    rw [BitVec.getLsbD_setWidth, decide_eq_true (by omega), Bool.true_and]

/-- Settles O14: the laws of its two halves, which share no bit. -/
theorem pairFieldLaws : Obligations.PairFieldLaws := by
  intro p w fits h v
  obtain ⟨hi, lo, -⟩ := pairFits_iff.mp fits
  refine ⟨?_, fun i k outsideHi outsideLo => ?_, insertPair_extractPair fits h⟩
  · have room := add_lsb_le_of_fits hi
    have shiftRoom := add_lsb_le_of_fits lo
    apply BitVec.eq_of_getLsbD_eq
    intro k hk
    rw [BitVec.getLsbD_and, extractPair_insertPair fits h v hk, getLsbD_lowMask_of_le (by omega)]
  · by_cases hk : k < 8
    · rw [getLsbD_insertPair _ _ _ _ hk, if_neg (mt (inField_iff_of_fits lo i k).mp outsideLo),
        if_neg (mt (inField_iff_of_fits hi i k).mp outsideHi)]
    · rw [BitVec.getLsbD_of_ge _ _ (by omega), BitVec.getLsbD_of_ge _ _ (by omega)]

end Sys2Proof.Machine
end

section
/-! The identifier codec as arithmetic: masking is a remainder, a right shift is a quotient, and a slice placed above all bits of
another value adds to it (20_memory.md R71, 41_identifier_codec.md R151 to R153). -/

namespace Sys2Proof.Machine

/-! ### Masks and disjoint slices, as numbers -/

/-- A value cut to its low `n` bits is its remainder (R17). -/
theorem toNat_and_lowMask {n : Nat} (fits : n ≤ 32) (v : U32) :
    (v &&& BitVec.ofNat 32 (2 ^ n - 1)).toNat = v.toNat % 2 ^ n := by
  have maskFits : 2 ^ n - 1 < 2 ^ 32 :=
    (Nat.sub_lt (Nat.two_pow_pos n) (by decide)).trans_le (Nat.pow_le_pow_right (by decide) fits)
  rw [BitVec.toNat_and, BitVec.toNat_ofNat, Nat.mod_eq_of_lt maskFits, Nat.and_two_pow_sub_one_eq_mod]

/-- A slice moved up past every bit of `low`, none of its own bits lost, adds to it: the two share no bit (R151). -/
theorem toNat_shiftLeft_or {high low : U32} {offset : Nat} (room : high.toNat * 2 ^ offset < 2 ^ 32)
    (below : low.toNat < 2 ^ offset) : (high <<< offset ||| low).toNat = high.toNat * 2 ^ offset + low.toNat := by
  rw [BitVec.toNat_or, BitVec.toNat_shiftLeft, Nat.shiftLeft_eq, Nat.mod_eq_of_lt room, ← Nat.shiftLeft_eq,
    Nat.shiftLeft_add_eq_or_of_lt below]

/-! ### The four fields cut to their widths (R71) -/

theorem toNat_and_deviceTypeMask (v : U32) : (v &&& 0x1F#32).toNat = v.toNat % 2 ^ 5 :=
  toNat_and_lowMask (n := 5) (by decide) v

theorem toNat_and_manufacturerMask (v : U32) : (v &&& 0xFF#32).toNat = v.toNat % 2 ^ 8 :=
  toNat_and_lowMask (n := 8) (by decide) v

theorem toNat_and_apiMask (v : U32) : (v &&& 0x3FF#32).toNat = v.toNat % 2 ^ 10 :=
  toNat_and_lowMask (n := 10) (by decide) v

theorem toNat_and_deviceNumberMask (v : U32) : (v &&& 0x3F#32).toNat = v.toNat % 2 ^ 6 :=
  toNat_and_lowMask (n := 6) (by decide) v

/-! ### Encoding and decoding, as numbers -/

/-- The identifier is put together from its lowest slice up; each further slice stands above what is already there (R151). -/
theorem toNat_encodeId (dt mf api dn : U32) :
    (encodeId dt mf api dn).toNat =
      dt.toNat % 2 ^ 5 * 2 ^ 24 + mf.toNat % 2 ^ 8 * 2 ^ 16 + api.toNat % 2 ^ 10 * 2 ^ 6 + dn.toNat % 2 ^ 6 := by
  have dtCut := toNat_and_deviceTypeMask dt
  have mfCut := toNat_and_manufacturerMask mf
  have apiCut := toNat_and_apiMask api
  have dnCut := toNat_and_deviceNumberMask dn
  have fromApi := toNat_shiftLeft_or (high := api &&& 0x3FF#32) (low := dn &&& 0x3F#32) (offset := 6) (by omega) (by omega)
  have fromManufacturer := toNat_shiftLeft_or (high := mf &&& 0xFF#32) (offset := 16) (by omega)
    (show ((api &&& 0x3FF#32) <<< 6 ||| (dn &&& 0x3F#32)).toNat < 2 ^ 16 by omega)
  rw [encodeId, BitVec.or_assoc, BitVec.or_assoc, toNat_shiftLeft_or (by omega) (by omega), fromManufacturer, fromApi,
    dtCut, mfCut, apiCut, dnCut]
  omega

theorem toNat_idDeviceType (id : U32) : (idDeviceType id).toNat = id.toNat / 2 ^ 24 % 2 ^ 5 := by
  rw [idDeviceType, toNat_and_deviceTypeMask, BitVec.toNat_ushiftRight, Nat.shiftRight_eq_div_pow]

theorem toNat_idManufacturer (id : U32) : (idManufacturer id).toNat = id.toNat / 2 ^ 16 % 2 ^ 8 := by
  rw [idManufacturer, toNat_and_manufacturerMask, BitVec.toNat_ushiftRight, Nat.shiftRight_eq_div_pow]

theorem toNat_idApi (id : U32) : (idApi id).toNat = id.toNat / 2 ^ 6 % 2 ^ 10 := by
  rw [idApi, toNat_and_apiMask, BitVec.toNat_ushiftRight, Nat.shiftRight_eq_div_pow]

theorem toNat_idDeviceNumber (id : U32) : (idDeviceNumber id).toNat = id.toNat % 2 ^ 6 :=
  toNat_and_deviceNumberMask id

/-- `ID_FROM_RAW` answers its operand (R153). -/
theorem exec_idFromRaw (id : U32) (s : State) : exec (.idFromRaw id) s = .next (s.respond (okRsp id 0 0 0)) := rfl

/-! ### The obligations -/

/-- Settles O15: the answer is the packed identifier, whose slices add up. -/
theorem idEncodePacksFields : Obligations.IdEncodePacksFields := fun dt mf api dn s =>
  ⟨rfl, encodeId dt mf api dn, exec_idEncode dt mf api dn s, toNat_encodeId dt mf api dn⟩

/-- Settles O16: each result is one slice of the identifier. -/
theorem idDecodeSplitsFields : Obligations.IdDecodeSplitsFields := fun id s =>
  ⟨rfl, idDeviceType id, idManufacturer id, idApi id, idDeviceNumber id, exec_idDecode id s,
    toNat_idDeviceType id, toNat_idManufacturer id, toNat_idApi id, toNat_idDeviceNumber id⟩

/-- Settles O17: the command computes nothing from its operand. -/
theorem idFromRawPassesThrough : Obligations.IdFromRawPassesThrough := fun id s => ⟨rfl, exec_idFromRaw id s⟩

end Sys2Proof.Machine
end

section
/-! The laws of the heartbeat fields: the fifteen ranges tile the 64-bit view `W`, so the bits of a buffer and the values of its
fields determine each other (20_memory.md R70, 42_heartbeat_codec.md R210). -/

namespace Sys2Proof.Machine

/-! ### The tiling (R70) -/

/-- Bit `k` of `W` belongs to the field (R70). -/
abbrev InRange (f : Field) (k : Nat) : Prop :=
  fieldLow f ≤ k ∧ k < fieldLow f + fieldWidth f

/-- The field that bit `k` of `W` belongs to. -/
def fieldOfBit (k : Nat) : Field :=
  if 59 ≤ k then .hour
  else if 53 ≤ k then .minute
  else if 47 ≤ k then .second
  else if 42 ≤ k then .day
  else if 38 ≤ k then .month
  else if 32 ≤ k then .year
  else if 29 ≤ k then .tournamentType
  else if 28 ≤ k then .systemWatchdog
  else if 27 ≤ k then .testMode
  else if 26 ≤ k then .autonomous
  else if 25 ≤ k then .enabled
  else if 24 ≤ k then .redAlliance
  else if 18 ≤ k then .replayNumber
  else if 8 ≤ k then .matchNumber
  else .matchTimeSeconds

/-- The fifteen ranges tile `W`: every bit belongs to one field and to no other, checked bit by bit. -/
theorem inRange_iff_fieldOfBit (f : Field) {k : Nat} (hk : k < 64) : InRange f k ↔ fieldOfBit k = f := by
  revert k
  cases f <;> decide

/-- A range ends inside `W`. -/
theorem fieldLow_add_fieldWidth_le (f : Field) : fieldLow f + fieldWidth f ≤ 64 := by
  cases f <;> decide

theorem fieldWidth_le (f : Field) : fieldWidth f ≤ 32 := by
  cases f <;> decide

/-- Two fields share no bit. -/
theorem not_inRange_of_ne {i j : Field} (ne : i ≠ j) {k : Nat} (inJ : InRange j k) : ¬ InRange i k := by
  have inside := fieldLow_add_fieldWidth_le j
  have hk : k < 64 := by omega
  rw [inRange_iff_fieldOfBit i hk, (inRange_iff_fieldOfBit j hk).mp inJ]
  exact ne.symm

/-! ### Getter and setter on the bits of `W` -/

/-- A buffer is the 64 bits of `W` (R62). -/
theorem HBuf.ext_word64 {g h : HBuf} (same : ∀ k < 64, g.word64.getLsbD k = h.word64.getLsbD k) : g = h := by
  refine HBuf.ext_get fun i => BitVec.eq_of_getLsbD_eq fun k hk => ?_
  rw [g.getLsbD_get i hk, h.getLsbD_get i hk, same _ (by omega)]

/-- A field's bits are those of its range (R172). -/
theorem getLsbD_getField (h : HBuf) (f : Field) (k : Nat) :
    (getField h f).getLsbD k = (h.word64.getLsbD (fieldLow f + k) && decide (k < fieldWidth f)) := by
  have width := fieldWidth_le f
  rw [getField_eq_extract, BitVec.getLsbD_setWidth, BitVec.getLsbD_extractLsb']
  grind

/-- Inside its field a bit of `W` is a bit of the field's value. -/
theorem getLsbD_getField_of_inRange (h : HBuf) {f : Field} {k : Nat} (inF : InRange f k) :
    (getField h f).getLsbD (k - fieldLow f) = h.word64.getLsbD k := by
  obtain ⟨above, below⟩ := inF
  rw [getLsbD_getField, Nat.add_sub_cancel' above, decide_eq_true (by omega), Bool.and_true]

/-! ### The six laws (R210) -/

theorem getField_setField_same (h : HBuf) (f : Field) (v : U32) :
    getField (setField h f v) f = v &&& BitVec.ofNat 32 (2 ^ fieldWidth f - 1) := by
  have inside := fieldLow_add_fieldWidth_le f
  apply BitVec.eq_of_getLsbD_eq
  intro k _
  rw [getLsbD_getField, BitVec.getLsbD_and, getLsbD_lowMask_of_le (fieldWidth_le f)]
  by_cases inWidth : k < fieldWidth f
  · rw [getLsbD_word64_setField h f v (by omega), if_pos ⟨by omega, by omega⟩, Nat.add_sub_cancel_left]
  · simp [inWidth]

theorem getField_setField_of_ne (h : HBuf) {i j : Field} (v : U32) (ne : i ≠ j) :
    getField (setField h i v) j = getField h j := by
  have inside := fieldLow_add_fieldWidth_le j
  apply BitVec.eq_of_getLsbD_eq
  intro k _
  rw [getLsbD_getField, getLsbD_getField]
  by_cases inWidth : k < fieldWidth j
  · have notI : ¬ InRange i (fieldLow j + k) := not_inRange_of_ne ne ⟨by omega, by omega⟩
    rw [getLsbD_word64_setField h i v (by omega), if_neg notI]
  · simp [inWidth]

theorem setField_getField (h : HBuf) (f : Field) : setField h f (getField h f) = h := by
  refine HBuf.ext_word64 fun k hk => ?_
  rw [getLsbD_word64_setField _ _ _ hk]
  split
  · next inF => exact getLsbD_getField_of_inRange h inF
  · rfl

theorem setField_setField_same (h : HBuf) (f : Field) (u v : U32) : setField (setField h f u) f v = setField h f v := by
  refine HBuf.ext_word64 fun k hk => ?_
  simp only [getLsbD_word64_setField _ _ _ hk]
  split <;> rfl

theorem setField_comm (h : HBuf) {i j : Field} (u v : U32) (ne : i ≠ j) :
    setField (setField h j u) i v = setField (setField h i v) j u := by
  refine HBuf.ext_word64 fun k hk => ?_
  simp only [getLsbD_word64_setField _ _ _ hk]
  by_cases inJ : InRange j k
  · simp only [if_pos inJ, if_neg (not_inRange_of_ne ne inJ)]
  · simp only [if_neg inJ]

/-- The fields cover `W`, so they determine the buffer. -/
theorem HBuf.ext_getField {g h : HBuf} (same : ∀ f, getField g f = getField h f) : g = h := by
  refine HBuf.ext_word64 fun k hk => ?_
  have inF : InRange (fieldOfBit k) k := (inRange_iff_fieldOfBit _ hk).mpr rfl
  rw [← getLsbD_getField_of_inRange g inF, same, getLsbD_getField_of_inRange h inF]

/-- Settles O25: the six laws above. -/
theorem heartbeatFieldLaws : Obligations.HeartbeatFieldLaws :=
  ⟨getField_setField_same, fun h _ _ v ne => getField_setField_of_ne h v ne, setField_getField, setField_setField_same,
    fun h _ _ u v ne => setField_comm h u v ne, fun _ _ => HBuf.ext_getField⟩

/-- After any run of setters a field that was set holds its value, cut to its width, and any other is as before. -/
theorem getField_foldl_setField (order : List Field) (v : Field → U32) (h : HBuf) (f : Field) :
    getField (order.foldl (fun h g => setField h g (v g)) h) f =
      if f ∈ order then v f &&& BitVec.ofNat 32 (2 ^ fieldWidth f - 1) else getField h f := by
  induction order generalizing h with
  | nil => simp
  | cons g rest ih =>
    rw [List.foldl_cons, ih]
    by_cases later : f ∈ rest
    · simp [later]
    by_cases now : f = g
    · simp [now, getField_setField_same]
    · simp [later, now, getField_setField_of_ne h (v g) (Ne.symm now)]

/-- Settles O26: every field is in the list, so every field was set. -/
theorem bufferRebuiltFromFields : Obligations.BufferRebuiltFromFields := fun order v all f => by
  rw [getField_foldl_setField, if_pos (all f)]

end Sys2Proof.Machine
end

section
/-! The heartbeat commands one by one: the generic getter and setter with the parameters of each field are the pseudocode of
R175 to R204, and the three whole-buffer commands move all eight bytes (42_heartbeat_codec.md R171 to R173, R175 to R207). -/

namespace Sys2Proof.Machine

/-! ### Reading a field that straddles two bytes, as a number -/

/-- A field that fits its byte is a quotient and a remainder of the byte (R131, R137). -/
theorem toNat_extractSingle_of_fits {p : SingleParam} {w : Nat} (fits : p.fits w = true) (h : HBuf) :
    (extractSingle h p).toNat = (h.get p.byteIndex).toNat / 2 ^ p.lsb.toNat % 2 ^ w := by
  simp only [SingleParam.fits, Bool.and_eq_true, decide_eq_true_eq] at fits
  obtain ⟨mask, room⟩ := fits
  have maskFits : 2 ^ w - 1 < 2 ^ 8 :=
    (Nat.sub_lt (Nat.two_pow_pos w) (by decide)).trans_le (Nat.pow_le_pow_right (by decide) (by omega))
  rw [toNat_extractSingle, mask, maskOfWidth, BitVec.toNat_ofNat, Nat.mod_eq_of_lt maskFits,
    Nat.and_two_pow_sub_one_eq_mod]

/-- A two-byte field that fits is the sum of its halves, the high one moved up past the low one (R132, R137). -/
theorem toNat_extractPair_of_fits {p : PairParam} {w : Nat} (fits : p.fits w = true) (h : HBuf) :
    (extractPair h p).toNat =
      (h.get p.hi.byteIndex).toNat / 2 ^ p.hi.lsb.toNat % 2 ^ w * 2 ^ p.shift.toNat +
        (h.get p.lo.byteIndex).toNat / 2 ^ p.lo.lsb.toNat % 2 ^ p.shift.toNat := by
  obtain ⟨hi, lo, -⟩ := pairFits_iff.mp fits
  rw [toNat_extractPair, toNat_extractSingle_of_fits hi, toNat_extractSingle_of_fits lo, ← Nat.shiftLeft_eq,
    Nat.shiftLeft_add_eq_or_of_lt (Nat.mod_lt _ (Nat.two_pow_pos _))]

/-- A field of the lowest `w` bits of one byte and the highest bits of another (R132, R171). -/
theorem toNat_extractPair_of_straddling {p : PairParam} {w : Nat} (fits : p.fits w = true) (lowest : p.hi.lsb = 0)
    (highest : p.lo.lsb.toNat + p.shift.toNat = 8) (h : HBuf) :
    (extractPair h p).toNat =
      (h.get p.hi.byteIndex).toNat % 2 ^ w * 2 ^ p.shift.toNat + (h.get p.lo.byteIndex).toNat / 2 ^ p.lo.lsb.toNat := by
  have low : (h.get p.lo.byteIndex).toNat / 2 ^ p.lo.lsb.toNat < 2 ^ p.shift.toNat := by
    rw [Nat.div_lt_iff_lt_mul (Nat.two_pow_pos _), ← Nat.pow_add, Nat.add_comm, highest]
    exact (h.get p.lo.byteIndex).isLt
  have high : (h.get p.hi.byteIndex).toNat / 2 ^ p.hi.lsb.toNat = (h.get p.hi.byteIndex).toNat := by
    rw [lowest]
    exact Nat.div_one _
  rw [toNat_extractPair_of_fits fits, high, Nat.mod_eq_of_lt low]

/-! ### The generic getter and setter with a field's parameters -/

theorem getField_of_single {f : Field} {p : SingleParam} (loc : fieldLoc f = .single p) (h : HBuf) :
    getField h f = (extractSingle h p).setWidth 32 := by
  rw [getField, loc]

theorem getField_of_pair {f : Field} {p : PairParam} (loc : fieldLoc f = .pair p) (h : HBuf) :
    getField h f = extractPair h p := by
  rw [getField, loc]

theorem setField_of_single {f : Field} {p : SingleParam} (loc : fieldLoc f = .single p) (h : HBuf) (v : U32) :
    setField h f v = insertSingle h v p := by
  rw [setField, loc]

theorem setField_of_pair {f : Field} {p : PairParam} (loc : fieldLoc f = .pair p) (h : HBuf) (v : U32) :
    setField h f v = insertPair h v p := by
  rw [setField, loc]

/-- The getter of a field in one byte (R131, R172). -/
theorem exec_getter_of_single {f : Field} {p : SingleParam} (loc : fieldLoc f = .single p) (s : State) :
    exec f.getter s =
      .next (s.respond (okRsp (((s.hb.get p.byteIndex >>> p.lsb.toNat) &&& p.widthMask).setWidth 32) 0 0 0)) := by
  rw [exec_getter, readField_eq, getField_of_single loc, extractSingle]

/-- The getter of a field that straddles two bytes (R132, R172). -/
theorem exec_getter_of_pair {f : Field} {p : PairParam} (loc : fieldLoc f = .pair p) (s : State) :
    exec f.getter s = .next (s.respond (okRsp (extractPair s.hb p) 0 0 0)) := by
  rw [exec_getter, readField_eq, getField_of_pair loc]

/-- The setter of a field in one byte writes that byte: the bits kept, and the value's bits (R134, R173). -/
theorem exec_setter_of_single {f : Field} {p : SingleParam} (loc : fieldLoc f = .single p) (v : U32) (s : State) :
    exec (f.setter v) s = .next ((s.withHb (s.hb.set p.byteIndex
      ((s.hb.get p.byteIndex &&& ~~~placeMask p) ||| insertedBits v p))).respond okOnly) := by
  rw [exec_setter, writeField_eq, setField_of_single loc, insertSingle]

/-- In a byte's lowest bits a value is placed by masking alone. -/
theorem insertedBits_of_lsb_zero {p : SingleParam} (lowest : p.lsb = 0) (v : U32) :
    insertedBits v p = (v &&& p.widthMask.setWidth 32).setWidth 8 := by
  rw [insertedBits, lowest]
  exact congrArg _ (BitVec.shiftLeft_zero _)

/-- The setter of a field that straddles two bytes, its high part in the lowest bits of another byte than its low part
(R135, R171, R173). -/
theorem exec_setter_of_pair {f : Field} {p : PairParam} (loc : fieldLoc f = .pair p) (lowest : p.hi.lsb = 0)
    (apart : p.lo.byteIndex ≠ p.hi.byteIndex) (v : U32) (s : State) :
    exec (f.setter v) s = .next ((s.withHb ((s.hb.set p.hi.byteIndex
        ((s.hb.get p.hi.byteIndex &&& ~~~placeMask p.hi) |||
          ((v >>> p.shift.toNat) &&& p.hi.widthMask.setWidth 32).setWidth 8)).set p.lo.byteIndex
        ((s.hb.get p.lo.byteIndex &&& ~~~placeMask p.lo) ||| insertedBits v p.lo))).respond okOnly) := by
  rw [exec_setter, writeField_eq, setField_of_pair loc, insertPair, insertSingle, insertSingle,
    HBuf.get_set_other _ _ apart, insertedBits_of_lsb_zero lowest]

/-- A field that is its whole byte takes the value's low byte (R188, R189, R203, R204). -/
theorem insertedByte_of_wholeByte (i : Fin 8) (b : Byte) (v : U32) :
    (b &&& ~~~placeMask ⟨i, 0, 0xFF⟩) ||| insertedBits v ⟨i, 0, 0xFF⟩ = v.setWidth 8 := by
  have fits : SingleParam.fits ⟨i, 0, 0xFF⟩ 8 = true := rfl
  apply BitVec.eq_of_getLsbD_eq
  intro k hk
  have inField : 0 ≤ k ∧ k < 0 + 8 := by omega
  rw [getLsbD_insertedByte fits b v hk, BitVec.getLsbD_setWidth, decide_eq_true hk, Bool.true_and]
  exact if_pos inField

/-! ### The obligations on fields -/

/-- Settles O20: the generic getter with the parameters of each field; the mask of a whole byte drops no bit. -/
theorem oneByteGetters : Obligations.OneByteGetters := by
  intro s
  have wholeByte : (s.hb.get 7 >>> 0) &&& 0xFF#8 = s.hb.get 7 :=
    (congrArg (· &&& 0xFF#8) (BitVec.ushiftRight_zero _)).trans BitVec.and_allOnes
  refine ⟨exec_getter_of_single (f := .hour) rfl s, exec_getter_of_single (f := .day) rfl s,
    exec_getter_of_single (f := .year) rfl s, exec_getter_of_single (f := .tournamentType) rfl s,
    exec_getter_of_single (f := .systemWatchdog) rfl s, exec_getter_of_single (f := .testMode) rfl s,
    exec_getter_of_single (f := .autonomous) rfl s, exec_getter_of_single (f := .enabled) rfl s,
    exec_getter_of_single (f := .redAlliance) rfl s, exec_getter_of_single (f := .replayNumber) rfl s, ?_, rfl⟩
  rw [← wholeByte]
  exact exec_getter_of_single (f := .matchTimeSeconds) rfl s

/-- Settles O21: each answer is the two-byte extraction, whose halves add up. -/
theorem straddlingGetters : Obligations.StraddlingGetters := fun s =>
  ⟨_, _, _, _,
   exec_getter_of_pair (f := .minute) rfl s, toNat_extractPair_of_straddling (w := 3) rfl rfl rfl s.hb,
   exec_getter_of_pair (f := .second) rfl s, toNat_extractPair_of_straddling (w := 5) rfl rfl rfl s.hb,
   exec_getter_of_pair (f := .month) rfl s, toNat_extractPair_of_straddling (w := 2) rfl rfl rfl s.hb,
   exec_getter_of_pair (f := .matchNumber) rfl s,
   (toNat_extractPair_of_straddling (w := 2) rfl rfl rfl s.hb).trans (congrArg _ (Nat.div_one _)), rfl⟩

/-- Settles O22: the generic setter with the parameters of each field; the complement of the placed mask is the mask of the bits
kept. -/
theorem oneByteSetters : Obligations.OneByteSetters := by
  intro v s
  refine ⟨exec_setter_of_single (f := .hour) rfl v s, exec_setter_of_single (f := .day) rfl v s,
    exec_setter_of_single (f := .year) rfl v s, exec_setter_of_single (f := .tournamentType) rfl v s,
    exec_setter_of_single (f := .systemWatchdog) rfl v s, exec_setter_of_single (f := .testMode) rfl v s,
    exec_setter_of_single (f := .autonomous) rfl v s, exec_setter_of_single (f := .enabled) rfl v s,
    exec_setter_of_single (f := .redAlliance) rfl v s, exec_setter_of_single (f := .replayNumber) rfl v s, ?_, rfl⟩
  rw [← insertedByte_of_wholeByte 7 (s.hb.get 7) v]
  exact exec_setter_of_single (f := .matchTimeSeconds) rfl v s

/-- Settles O23: the generic setter writes the two bytes of the field. -/
theorem straddlingSetters : Obligations.StraddlingSetters := by
  intro v s
  refine ⟨exec_setter_of_pair (f := .minute) rfl rfl (by decide) v s,
    exec_setter_of_pair (f := .second) rfl rfl (by decide) v s,
    exec_setter_of_pair (f := .month) rfl rfl (by decide) v s, ?_, rfl⟩
  rw [← insertedByte_of_wholeByte 6 (s.hb.get 6) v]
  exact exec_setter_of_pair (f := .matchNumber) rfl rfl (by decide) v s

/-! ### The whole buffer -/

/-- `HB_CLEAR` stores the zero buffer (R205). -/
theorem exec_hbClear (s : State) : exec .hbClear s = .next ((s.withHb HBuf.zero).respond okOnly) := rfl

/-- Settles O28: the three commands by their equations. -/
theorem wholeBufferCommands : Obligations.WholeBufferCommands :=
  ⟨fun s => ⟨_, exec_hbClear s, HBuf.get_zero⟩,
   fun a0 a1 s => ⟨_, exec_hbLoad a0 a1 s, rfl, rfl, rfl, rfl, rfl, rfl, rfl, rfl⟩,
   exec_hbRead, rfl, fun _ _ => rfl, rfl⟩

end Sys2Proof.Machine
end

section
/-! Unit D outside `STEP`: the guard, the five registrations, and that no command leaves `FAULTED` (43_dispatcher.md R231 to
R241, R251, 60_exceptions.md R302). -/

namespace Sys2Proof.Machine

/-! ### The guard -/

/-- A unit D command in `FAULTED` (R231). -/
theorem exec_of_faulted {i : Instr} {s : State} (hi : i.unit = .dispatcher) (faulted : s.phase = .faulted) :
    exec i s = .next (s.respond (refusedRsp .faulted)) := by
  obtain ⟨body, e⟩ := exec_of_dispatcher hi s
  rw [e, guarded_faulted faulted, refuse]

/-- A unit D command while a `STEP` is in progress (R231). -/
theorem exec_of_busy {i : Instr} {s : State} (hi : i.unit = .dispatcher) (notFaulted : s.phase ≠ .faulted)
    (notIdle : s.phase ≠ .idle) : exec i s = .next (s.respond (refusedRsp .busy)) := by
  obtain ⟨body, e⟩ := exec_of_dispatcher hi s
  rw [e, guarded_busy notIdle notFaulted, refuse]

/-- Settles O32: every unit D command stands behind the guard. -/
theorem guardRefuses : Obligations.GuardRefuses := fun _ _ hi => ⟨exec_of_faulted hi, exec_of_busy hi⟩

/-! ### Registrations under a key -/

/-- A length is at its capacity when it is the capacity; without one it never is (R236, R241). -/
theorem atCapacity_iff {cap : Option Nat} {n : Nat} : atCapacity cap n = true ↔ cap = some n := by
  cases cap with
  | none => simp [atCapacity]
  | some c => simp [atCapacity, eq_comm]

theorem atCapacity_eq_false_iff {cap : Option Nat} {n : Nat} : atCapacity cap n = false ↔ cap ≠ some n := by
  rw [← Bool.not_eq_true, Ne, atCapacity_iff]

section
variable {table : List Entry} {cap : Option Nat} {e : Entry} {store : List Entry → State} {s : State}

/-- `DUP` is tested first, so a full table answers it too (R236, R238, R302). -/
theorem registerKey_of_dup (present : lookup table e.key ≠ none) :
    registerKey table cap e store s = s.respond (refusedRsp .dup) := by
  obtain ⟨-, eq⟩ | ⟨absent, -⟩ | ⟨absent, -⟩ := registerKey_cases table cap e store s
  · exact eq
  · exact absurd absent present
  · exact absurd absent present

/-- `FULL` is the answer to a new key in a table at its capacity (R236, R238). -/
theorem registerKey_of_full (absent : lookup table e.key = none) (full : cap = some table.length) :
    registerKey table cap e store s = s.respond (refusedRsp .full) := by
  obtain ⟨present, -⟩ | ⟨-, -, eq⟩ | ⟨-, room, -⟩ := registerKey_cases table cap e store s
  · exact absurd absent present
  · exact eq
  · exact absurd full (atCapacity_eq_false_iff.mp room)

/-- A new key for which there is room is stored (R236, R238). -/
theorem registerKey_of_room (absent : lookup table e.key = none) (room : cap ≠ some table.length) :
    registerKey table cap e store s = (store (insertEntry table e)).respond okOnly := by
  obtain ⟨present, -⟩ | ⟨-, full, -⟩ | ⟨-, -, eq⟩ := registerKey_cases table cap e store s
  · exact absurd absent present
  · exact absurd (atCapacity_iff.mp full) room
  · exact eq

end

/-- The new key reads as its tag, every other key as before (R24, R236). -/
theorem lookup_insertEntry_eq_ite {t : List Entry} {id : U32} (absent : lookup t id = none) (hid k : U32) :
    lookup (insertEntry t ⟨id, hid⟩) k = if k = id then some hid else lookup t k := by
  rw [lookup_insertEntry (e := ⟨id, hid⟩) absent]
  simp only [eq_comm]

/-- `REG_HANDLER` past its guard (R236). -/
theorem exec_regHandler_of_idle (id hid : U32) {s : State} (idle : s.phase = .idle) :
    exec (.regHandler id hid) s = .next (registerKey s.dataTable s.cfg.capData ⟨id, hid⟩ s.withDataTable s) :=
  congrArg Host.Outcome.next (guarded_idle idle)

/-- `REG_RTR_HANDLER` past its guard (R238). -/
theorem exec_regRtrHandler_of_idle (id hid : U32) {s : State} (idle : s.phase = .idle) :
    exec (.regRtrHandler id hid) s = .next (registerKey s.rtrTable s.cfg.capRtr ⟨id, hid⟩ s.withRtrTable s) :=
  congrArg Host.Outcome.next (guarded_idle idle)

/-- Settles O33: the guard, then the three cases of a keyed registration. -/
theorem regHandlerRegisters : Obligations.RegHandlerRegisters := by
  intro id hid s
  refine ⟨rfl, exec_of_faulted rfl, exec_of_busy rfl, fun idle present => ?_, fun idle absent full => ?_,
    fun idle absent room => ⟨insertEntry s.dataTable ⟨id, hid⟩, ?_, lookup_insertEntry_eq_ite absent hid, by simp⟩⟩
  · rw [exec_regHandler_of_idle id hid idle, registerKey_of_dup present, refusedRsp]
  · rw [exec_regHandler_of_idle id hid idle, registerKey_of_full absent full, refusedRsp]
  · rw [exec_regHandler_of_idle id hid idle, registerKey_of_room absent room, okOnly, okRsp]

/-- Settles O34: as O33, on the other table. -/
theorem regRtrHandlerRegisters : Obligations.RegRtrHandlerRegisters := by
  intro id hid s
  refine ⟨rfl, exec_of_faulted rfl, exec_of_busy rfl, fun idle present => ?_, fun idle absent full => ?_,
    fun idle absent room => ⟨insertEntry s.rtrTable ⟨id, hid⟩, ?_, lookup_insertEntry_eq_ite absent hid, by simp⟩⟩
  · rw [exec_regRtrHandler_of_idle id hid idle, registerKey_of_dup present, refusedRsp]
  · rw [exec_regRtrHandler_of_idle id hid idle, registerKey_of_full absent full, refusedRsp]
  · rw [exec_regRtrHandler_of_idle id hid idle, registerKey_of_room absent room, okOnly, okRsp]

/-! ### The slots and the iteration list -/

/-- Settles O35: the guard, then each body writes its slot. -/
theorem regSlotsOverwrite : Obligations.RegSlotsOverwrite := by
  intro hid s
  refine ⟨rfl, rfl, fun faulted => ⟨exec_of_faulted rfl faulted, exec_of_faulted rfl faulted⟩,
    fun notFaulted notIdle => ⟨exec_of_busy rfl notFaulted notIdle, exec_of_busy rfl notFaulted notIdle⟩,
    fun idle => ⟨?_, ?_⟩⟩
  · exact congrArg Host.Outcome.next (guarded_idle idle)
  · exact congrArg Host.Outcome.next (guarded_idle idle)

/-- `REG_ITERATION` in `IDLE`, at the capacity (R241). -/
theorem exec_regIteration_of_full {s : State} (idle : s.phase = .idle) (full : s.cfg.capIter = some s.iter.length)
    (hid : U32) : exec (.regIteration hid) s = .next (s.respond (refusedRsp .full)) := by
  simp [exec, execRegIteration, idle, appendIteration, atCapacity_iff.mpr full, refuse]

/-- Settles O36: the guard, then the two cases of its body. -/
theorem regIterationAppends : Obligations.RegIterationAppends := fun hid _ =>
  ⟨rfl, exec_of_faulted rfl, exec_of_busy rfl, fun idle full => exec_regIteration_of_full idle full hid,
    fun idle room => exec_regIteration_of_room idle (atCapacity_eq_false_iff.mpr room) hid⟩

/-! ### `FAULTED` -/

/-- Outside `IDLE`, in `FAULTED` and during a `STEP` alike, a command writes at most the buffer, and answers (R231, R291). -/
theorem exec_of_not_idle {s : State} (notIdle : s.phase ≠ .idle) (i : Instr) :
    ∃ h r, exec i s = .next ((s.withHb h).respond r) := by
  by_cases faulted : s.phase = .faulted
  · by_cases hi : i.unit = .dispatcher
    · exact ⟨s.hb, _, exec_of_faulted hi faulted⟩
    · exact exec_of_codec hi s
  · exact exec_of_stepInProgress ⟨notIdle, faulted⟩ i

/-- So does every word the block accepts there (R112, R291). -/
theorem runWord_of_not_idle {s : State} (notIdle : s.phase ≠ .idle) (w : PortWord) :
    ∃ h r, runWord w s = .next ((s.withHb h).respond r) := by
  cases hw : decode w with
  | ok i =>
    rw [runWord_of_decode hw]
    exact exec_of_not_idle notIdle i
  | error e => exact ⟨s.hb, _, runWord_of_decode_error hw s⟩

/-- Settles O50: without a request and a reset a step runs a word of the host, or is quiet. -/
theorem faultedIsSticky : Obligations.FaultedIsSticky := by
  intro s t faulted noRequest noReset ht
  cases hc : s.cmds with
  | nil =>
    rw [step_of_quiet noReset noRequest hc] at ht
    cases ht
    exact ⟨faulted, noRequest, ⟨rfl, rfl, rfl, rfl, rfl⟩, rfl, rfl, rfl, rfl, rfl⟩
  | cons w rest =>
    have notIdle : (s.withCmds rest).phase ≠ .idle := by simp [faulted]
    obtain ⟨h, r, e⟩ := runWord_of_not_idle notIdle w
    rw [step_of_hostWord noReset noRequest hc, e] at ht
    cases ht
    exact ⟨faulted, noRequest, ⟨rfl, rfl, rfl, rfl, rfl⟩, rfl, rfl, rfl, rfl, rfl⟩

end Sys2Proof.Machine
end

section
/-! Where a frame goes, and along which transitions one answer of the environment moves `phase` (43_dispatcher.md R244, R246,
R252, R253). -/

namespace Sys2Proof.Machine

/-! ### Routing -/

/-- A data frame whose identifier has an entry in `DATA_TABLE` (R246). -/
theorem route_of_data {s : State} {f : CanFrame} {h : U32} (data : f.isRemoteRequest = false)
    (entry : lookup s.dataTable f.identifier = some h) : route s f = some (.data, h) := by
  simp [route, data, entry]

/-- A remote request whose identifier has an entry in `RTR_TABLE` (R246). -/
theorem route_of_rtr {s : State} {f : CanFrame} {h : U32} (remote : f.isRemoteRequest = true)
    (entry : lookup s.rtrTable f.identifier = some h) : route s f = some (.rtr, h) := by
  simp [route, remote, entry]

/-- The table of a frame's own kind (R246, R253). -/
def ownTable (s : State) (f : CanFrame) : List Entry :=
  if f.isRemoteRequest then s.rtrTable else s.dataTable

/-- A frame without an entry in the table of its own kind (R246). -/
theorem route_of_unmatched {s : State} {f : CanFrame} (absent : lookup (ownTable s f) f.identifier = none) :
    route s f = fallback s := by
  cases kind : f.isRemoteRequest with
  | false =>
    have absentData : lookup s.dataTable f.identifier = none := by simpa [ownTable, kind] using absent
    simp [route, kind, absentData]
  | true =>
    have absentRtr : lookup s.rtrTable f.identifier = none := by simpa [ownTable, kind] using absent
    simp [route, kind, absentRtr]

/-- Settles O39: by the two tables, the fallback, and that `route` reads the kind bit and the identifier only. -/
theorem frameRouting : Obligations.FrameRouting := by
  intro s f
  refine ⟨fun _ => route_of_data, fun _ => route_of_rtr, fun absent => route_of_unmatched ?_, fun _ _ _ => rfl⟩
  rw [ownTable, apply_ite (lookup · f.identifier)]
  exact absent

/-! ### Transitions of `phase` -/

/-- Where the iteration phase stands once it has begun: in a callback, or at the end of the `STEP` (R249). -/
theorem enterIteration_phase (s : State) : (enterIteration s).phase = .iterate ∨ (enterIteration s).phase = .idle :=
  callIteration_phase ((s.withPhase .iterate).withIterIdx 0)

/-- After a frame: still in the frame loop, or past it (R247). -/
theorem afterFrame_phase {s : State} (hp : s.phase = .dispatch) :
    (afterFrame s).phase = .dispatch ∨ (afterFrame s).phase = .iterate ∨ (afterFrame s).phase = .idle := by
  unfold afterFrame
  split
  · exact .inl hp
  · exact .inr (enterIteration_phase s)

theorem handleFrame_phase (f : CanFrame) (s : State) :
    (handleFrame f s).phase = .dispatch ∨ (handleFrame f s).phase = .iterate ∨ (handleFrame f s).phase = .idle := by
  unfold handleFrame
  split
  · exact .inl rfl
  · exact afterFrame_phase rfl

theorem handleTimeout_phase (s : State) :
    (handleTimeout s).phase = .tmout ∨ (handleTimeout s).phase = .iterate ∨ (handleTimeout s).phase = .idle := by
  unfold handleTimeout
  split
  · exact .inl rfl
  · exact .inr (enterIteration_phase _)

/-- From `WAIT`: to the frame loop or to the timeout, or past them (R245). -/
theorem received_phase_of_wait (r : Option CanFrame) {s : State} (wait : s.phase = .wait) :
    (received r s).phase = .dispatch ∨ (received r s).phase = .tmout ∨ (received r s).phase = .iterate ∨
      (received r s).phase = .idle := by
  cases r with
  | some f =>
    obtain h | h := handleFrame_phase f (s.log (.recv (some f)))
    · exact .inl h
    · exact .inr (.inr h)
  | none =>
    have e : received none s = handleTimeout (s.log (.recv none)) := by simp [received, wait]
    rw [e]
    exact .inr (handleTimeout_phase _)

/-- A later receive answered `None` ends the frame loop, without the timeout-handler (R247). -/
theorem received_none_of_dispatch {s : State} (dispatch : s.phase = .dispatch) :
    received none s = enterIteration (s.log (.recv none)) := by
  simp [received, dispatch]

theorem received_phase_of_dispatch (r : Option CanFrame) {s : State} (dispatch : s.phase = .dispatch) :
    (received r s).phase = .dispatch ∨ (received r s).phase = .iterate ∨ (received r s).phase = .idle := by
  cases r with
  | some f => exact handleFrame_phase f _
  | none =>
    rw [received_none_of_dispatch dispatch]
    exact .inr (enterIteration_phase _)

theorem pendingAnswered_phase (p : Bool) {s : State} (dispatch : s.phase = .dispatch) :
    (pendingAnswered p s).phase = .dispatch ∨ (pendingAnswered p s).phase = .iterate ∨
      (pendingAnswered p s).phase = .idle := by
  cases p with
  | true => exact .inl dispatch
  | false => exact .inr (enterIteration_phase _)

/-- What follows a callback that returned, by the phase it ran in (R245). -/
theorem afterCallback_of_dispatch {s : State} (dispatch : s.phase = .dispatch) : afterCallback s = afterFrame s := by
  simp [afterCallback, dispatch]

theorem afterCallback_of_tmout {s : State} (tmout : s.phase = .tmout) : afterCallback s = enterIteration s := by
  simp [afterCallback, tmout]

theorem afterCallback_of_iterate {s : State} (iterate : s.phase = .iterate) :
    afterCallback s = callIteration (s.withIterIdx (s.iterIdx + 1)) := by
  simp [afterCallback, iterate]

/-- An answered invocation fails the `STEP`, or what follows it is that of the phase it ran in (R250, R251). -/
theorem callbackAnswered_phase {P : Phase → Prop} (req : CbRequest) (a : Answer) {s : State} (failed : P .faulted)
    (returned : ∀ u : State, u.phase = s.phase → P (afterCallback u).phase) : P (callbackAnswered req a s).phase := by
  cases a with
  | fault => exact failed
  | ret g => exact returned (sendReturned req.kind g (s.log (.invoke req (.ret g)))) (sendReturned_phase _ _ _)

theorem callbackAnswered_phase_of_dispatch (req : CbRequest) (a : Answer) {s : State} (dispatch : s.phase = .dispatch) :
    (callbackAnswered req a s).phase = .dispatch ∨ (callbackAnswered req a s).phase = .iterate ∨
      (callbackAnswered req a s).phase = .idle ∨ (callbackAnswered req a s).phase = .faulted := by
  refine callbackAnswered_phase (P := fun p => p = .dispatch ∨ p = .iterate ∨ p = .idle ∨ p = .faulted) req a (by simp)
    fun u hu => ?_
  rw [afterCallback_of_dispatch (hu.trans dispatch)]
  exact (afterFrame_phase (hu.trans dispatch)).imp_right (.imp_right .inl)

theorem callbackAnswered_phase_of_tmout (req : CbRequest) (a : Answer) {s : State} (tmout : s.phase = .tmout) :
    (callbackAnswered req a s).phase = .iterate ∨ (callbackAnswered req a s).phase = .idle ∨
      (callbackAnswered req a s).phase = .faulted := by
  refine callbackAnswered_phase (P := fun p => p = .iterate ∨ p = .idle ∨ p = .faulted) req a (by simp) fun u hu => ?_
  rw [afterCallback_of_tmout (hu.trans tmout)]
  exact (enterIteration_phase u).imp_right .inl

theorem callbackAnswered_phase_of_iterate (req : CbRequest) (a : Answer) {s : State} (iterate : s.phase = .iterate) :
    (callbackAnswered req a s).phase = .iterate ∨ (callbackAnswered req a s).phase = .idle ∨
      (callbackAnswered req a s).phase = .faulted := by
  refine callbackAnswered_phase (P := fun p => p = .iterate ∨ p = .idle ∨ p = .faulted) req a (by simp) fun u hu => ?_
  rw [afterCallback_of_iterate (hu.trans iterate), ← hu.trans iterate]
  exact (callIteration_phase (u.withIterIdx (u.iterIdx + 1))).imp_right .inl

/-- In `WAIT` a receive is asked; it is asked in `DISPATCH` besides (R245, R247). -/
theorem phase_of_receive {s : State} {tm : Nat} (hf : awaitFits s) (ha : s.await = .receive tm) :
    s.phase = .wait ∨ s.phase = .dispatch := by
  cases h : s.phase with
  | wait | dispatch => simp
  | idle | tmout | iterate | faulted => simp [awaitFits, h, ha] at hf

/-- Settles O51: by the request that was answered, and for an invocation by the phase it ran in. -/
theorem phaseFollowsTransitions : Obligations.PhaseFollowsTransitions := by
  intro s t good h
  obtain ⟨tm, r, rest, ha, -, rfl⟩ | ⟨p, rest, ha, -, rfl⟩ | ⟨req, r, rest, ha, -, rfl⟩ := advance_cases h
  · obtain wait | dispatch := phase_of_receive good.port ha
    · exact .inl ⟨wait, received_phase_of_wait r.meaning (s := s.takeRx rest) wait⟩
    · have moved := received_phase_of_dispatch r.meaning (s := s.takeRx rest) dispatch
      exact .inr (.inl ⟨dispatch, moved.imp_right (.imp_right .inl)⟩)
  · obtain ⟨dispatch, -⟩ := dispatch_of_hasPending good.port ha
    exact .inr (.inl ⟨dispatch, (pendingAnswered_phase p (s := s.takePend rest) dispatch).imp_right (.imp_right .inl)⟩)
  · obtain dispatch | tmout | iterate := phase_of_callback good.port ha
    · exact .inr (.inl ⟨dispatch, callbackAnswered_phase_of_dispatch req r.meaning (s := s.takeCb rest) dispatch⟩)
    · exact .inr (.inr (.inl ⟨tmout, callbackAnswered_phase_of_tmout req r.meaning (s := s.takeCb rest) tmout⟩))
    · exact .inr (.inr (.inr ⟨iterate, callbackAnswered_phase_of_iterate req r.meaning (s := s.takeCb rest) iterate⟩))

end Sys2Proof.Machine
end

section
/-! Waiting: a `STEP` that waits does, when more comes in on the ports, what it would have done had that been there from the
start (43_dispatcher.md R244, R263, 60_exceptions.md R329). What comes in commutes with every action of a `STEP`. -/

namespace Sys2Proof.Machine

/-! ### Actions that take nothing from a port -/

section
variable {rx : List RecvResponse} {pend : List Bool} {cb : List CbEvent}

theorem callIteration_feed (s : State) : callIteration (s.feed rx pend cb) = (callIteration s).feed rx pend cb := by
  have e : (s.feed rx pend cb).iter[(s.feed rx pend cb).iterIdx]? = s.iter[s.iterIdx]? := rfl
  unfold callIteration
  rw [e]
  cases s.iter[s.iterIdx]? <;> rfl

theorem enterIteration_feed (s : State) : enterIteration (s.feed rx pend cb) = (enterIteration s).feed rx pend cb :=
  callIteration_feed ((s.withPhase .iterate).withIterIdx 0)

theorem afterFrame_feed (s : State) : afterFrame (s.feed rx pend cb) = (afterFrame s).feed rx pend cb := by
  have e : (s.feed rx pend cb).cfg = s.cfg := rfl
  unfold afterFrame
  rw [e, enterIteration_feed]
  split <;> rfl

theorem handleFrame_feed (f : CanFrame) (s : State) :
    handleFrame f (s.feed rx pend cb) = (handleFrame f s).feed rx pend cb := by
  have e : route (s.feed rx pend cb) f = route s f := rfl
  unfold handleFrame
  rw [e]
  cases route s f with
  | none => exact afterFrame_feed ((s.withPhase .dispatch).withCur f)
  | some kh => rfl

theorem handleTimeout_feed (s : State) : handleTimeout (s.feed rx pend cb) = (handleTimeout s).feed rx pend cb := by
  have e : (s.feed rx pend cb).tmo = s.tmo := rfl
  unfold handleTimeout
  rw [e]
  cases s.tmo.valid with
  | false => exact enterIteration_feed (s.withPhase .tmout)
  | true => rfl

theorem received_feed (r : Option CanFrame) (s : State) :
    received r (s.feed rx pend cb) = (received r s).feed rx pend cb := by
  have e : (s.feed rx pend cb).phase = s.phase := rfl
  have el : (s.feed rx pend cb).log (.recv r) = (s.log (.recv r)).feed rx pend cb := rfl
  unfold received
  rw [e, el, handleTimeout_feed, enterIteration_feed]
  cases r with
  | some f => exact handleFrame_feed f _
  | none => dsimp only; split <;> rfl

theorem pendingAnswered_feed (p : Bool) (s : State) :
    pendingAnswered p (s.feed rx pend cb) = (pendingAnswered p s).feed rx pend cb := by
  cases p with
  | true => rfl
  | false => exact enterIteration_feed (s.log (.pending false))

theorem sendReturned_feed (k : CbKind) (g : Option CanFrame) (s : State) :
    sendReturned k g (s.feed rx pend cb) = (sendReturned k g s).feed rx pend cb := by
  have e : (s.feed rx pend cb).cfg = s.cfg := rfl
  unfold sendReturned
  rw [e]
  cases g with
  | none => rfl
  | some f => dsimp only; split <;> rfl

theorem afterCallback_feed (s : State) : afterCallback (s.feed rx pend cb) = (afterCallback s).feed rx pend cb := by
  have e : (s.feed rx pend cb).phase = s.phase := rfl
  unfold afterCallback
  rw [e]
  cases s.phase with
  | dispatch => exact afterFrame_feed s
  | tmout => exact enterIteration_feed s
  | iterate => exact callIteration_feed (s.withIterIdx (s.iterIdx + 1))
  | idle | wait | faulted => rfl

theorem callbackAnswered_feed (req : CbRequest) (a : Answer) (s : State) :
    callbackAnswered req a (s.feed rx pend cb) = (callbackAnswered req a s).feed rx pend cb := by
  cases a with
  | fault => rfl
  | ret g =>
    have e := sendReturned_feed (rx := rx) (pend := pend) (cb := cb) req.kind g (s.log (.invoke req (.ret g)))
    exact (congrArg afterCallback e).trans (afterCallback_feed _)

/-! ### The answers that count -/

/-- Where an answer counts already, the late ones before it are all there, and what comes in comes after it (R340). -/
theorem drop_append_of_cons {α : Type} {n : Nat} {l rest : List α} {x : α} (h : l.drop n = x :: rest) (more : List α) :
    (l ++ more).drop n = x :: (rest ++ more) := by
  have late : n ≤ l.length := by
    by_contra short
    rw [List.drop_eq_nil_of_le (Nat.le_of_not_le short)] at h
    cases h
  rw [List.drop_append_of_le_length late, h, List.cons_append]

theorem dropLate_nil (n : Nat) : dropLate n [] = [] := by
  induction n with
  | zero => rfl
  | succ n ih => exact ih

/-- An abandoned invocation that is over leaves what comes in later where it is. -/
theorem dropAbandoned_append {l : List CbEvent} (left : dropAbandoned l ≠ []) (more : List CbEvent) :
    dropAbandoned (l ++ more) = dropAbandoned l ++ more := by
  induction l with
  | nil => exact absurd rfl left
  | cons e l ih =>
    cases e with
    | answer r => rfl
    | command w => exact ih left

theorem dropLate_append {n : Nat} {l : List CbEvent} (left : dropLate n l ≠ []) (more : List CbEvent) :
    dropLate n (l ++ more) = dropLate n l ++ more := by
  induction n generalizing l with
  | zero => rfl
  | succ n ih =>
    have left' : dropAbandoned l ≠ [] := fun e => left (by rw [dropLate, e, dropLate_nil])
    rw [dropLate, dropAbandoned_append left']
    exact ih left

theorem rxDue_feed {s : State} {r : RecvResponse} {rest : List RecvResponse} (due : s.rxDue = r :: rest) :
    (s.feed rx pend cb).rxDue = r :: (rest ++ rx) :=
  drop_append_of_cons due rx

theorem pendDue_feed {s : State} {p : Bool} {rest : List Bool} (due : s.pendDue = p :: rest) :
    (s.feed rx pend cb).pendDue = p :: (rest ++ pend) :=
  drop_append_of_cons due pend

theorem cbDue_feed {s : State} {e : CbEvent} {rest : List CbEvent} (due : s.cbDue = e :: rest) :
    (s.feed rx pend cb).cbDue = e :: (rest ++ cb) := by
  have left : dropLate s.late.callback s.cb ≠ [] := by
    rw [← State.cbDue, due]
    exact List.cons_ne_nil e rest
  exact (dropLate_append left cb).trans (congrArg (· ++ cb) due)

/-! ### A whole `STEP` -/

/-- What comes in changes nothing of an `advance` that has its answer. -/
theorem advance_feed {s t : State} (h : advance s = some t) :
    advance (s.feed rx pend cb) = some (t.feed rx pend cb) := by
  have ea : (s.feed rx pend cb).await = s.await := rfl
  obtain ⟨tm, r, rest, ha, due, rfl⟩ | ⟨p, rest, ha, due, rfl⟩ | ⟨req, r, rest, ha, due, rfl⟩ := advance_cases h
  · simp only [advance, ea, ha, rxDue_feed due]
    exact congrArg some (received_feed r.meaning (s.takeRx rest))
  · simp only [advance, ea, ha, pendDue_feed due]
    exact congrArg some (pendingAnswered_feed p (s.takePend rest))
  · simp only [advance, ea, ha, cbDue_feed due]
    exact congrArg some (callbackAnswered_feed req r.meaning (s.takeCb rest))

theorem resume_feed_runFor (n : Nat) (s : State) :
    resume ((runFor n s).feed rx pend cb) = resume (s.feed rx pend cb) := by
  induction n generalizing s with
  | zero => rfl
  | succ n ih =>
    unfold runFor
    cases h : advance s with
    | none => rfl
    | some t => exact (ih t).trans (resume_of_advance (advance_feed h)).symm

/-- What comes in while the `STEP` waits takes it where it would have been, had it been there before (R244, R263). -/
theorem resume_feed_resume (s : State) : resume ((resume s).feed rx pend cb) = resume (s.feed rx pend cb) :=
  resume_feed_runFor (answersLeft s) s

/-- `STEP` past its guard (R245). -/
theorem exec_step_of_idle {s : State} (idle : s.phase = .idle) : exec .step s = .next (resume (beginStep s)) :=
  congrArg Host.Outcome.next (guarded_idle idle)

/-- The machine's next step, where the `STEP` waits and something came in that is no command of the callback agent. -/
theorem step_feed_eq_exec_feed {s w : State} (idle : s.phase = .idle) (noReset : s.resetReq = false)
    (hw : exec .step s = .next w) (waits : w.await ≠ .none)
    (noCommand : ∀ (req : CbRequest) (c : PortWord) (rest : List CbEvent),
      w.await = .callback req → (w.feed rx pend cb).cbDue ≠ .command c :: rest) :
    step (w.feed rx pend cb) = exec .step (s.feed rx pend cb) := by
  have ready : AwaitsAnswer (w.feed rx pend cb) := ⟨(sameBlock_of_exec_step hw).resetReq.trans noReset, waits, noCommand⟩
  have goesOn : resume (w.feed rx pend cb) = resume ((beginStep s).feed rx pend cb) := by
    rw [exec_step_of_idle idle] at hw
    cases hw
    exact resume_feed_resume (beginStep s)
  rw [ready.step_eq, goesOn, exec_step_of_idle (s := s.feed rx pend cb) idle]
  rfl

end

theorem State.feed_rx (s : State) (more : List RecvResponse) : s.feed more [] [] = s.withRx (s.rx ++ more) := by
  simp [State.feed, State.withRx, State.withPend, State.withCb]

theorem State.feed_pend (s : State) (more : List Bool) : s.feed [] more [] = s.withPend (s.pend ++ more) := by
  simp [State.feed, State.withRx, State.withPend, State.withCb]

theorem State.feed_cb (s : State) (more : List CbEvent) : s.feed [] [] more = s.withCb (s.cb ++ more) := by
  simp [State.feed, State.withRx, State.withPend, State.withCb]

/-- Settles O41: each port's answers are what comes in, the other two getting nothing. -/
theorem waitingStepGoesOn : Obligations.WaitingStepGoesOn := by
  intro s w idle noReset hw
  refine ⟨fun tm more ha => ?_, fun more ha => ?_, fun req more ha noCommand => ?_⟩
  · rw [← State.feed_rx, ← State.feed_rx]
    exact step_feed_eq_exec_feed idle noReset hw (by simp [ha]) (by simp [ha])
  · rw [← State.feed_pend, ← State.feed_pend]
    exact step_feed_eq_exec_feed idle noReset hw (by simp [ha]) (by simp [ha])
  · rw [← State.feed_cb] at noCommand
    rw [← State.feed_cb, ← State.feed_cb]
    exact step_feed_eq_exec_feed idle noReset hw (by simp [ha]) fun _ c rest _ => noCommand c rest

/-! ### The first `receive` -/

/-- While `receive` is not answered the block waits (R329). -/
theorem advance_of_rxDue_nil {s : State} {tm : Nat} (ha : s.await = .receive tm) (due : s.rxDue = []) :
    advance s = none := by
  simp [advance, ha, due]

/-- Waiting for the transport, the machine's next step goes on with the `STEP` (R244). -/
theorem step_of_receive {s : State} {tm : Nat} (ha : s.await = .receive tm) (noReset : s.resetReq = false) :
    step s = .next (resume s) :=
  AwaitsAnswer.step_eq ⟨noReset, by simp [ha], by simp [ha]⟩

/-- Settles O40: the accepted `STEP` waits in its first `receive`, with the answers it would have taken at once. -/
theorem stepWaitsForTransport : Obligations.StepWaitsForTransport := by
  refine ⟨fun s idle due => ?_, fun t tm ha due noReset => ?_, fun s rx idle noReset => ?_⟩
  · rw [exec_step_of_idle idle, resume_of_waiting (advance_of_rxDue_nil (s := beginStep s) rfl due), beginStep]
  · rw [step_of_receive ha noReset, resume_of_waiting (advance_of_rxDue_nil ha due)]
  · exact (step_of_receive (s := beginStep (s.withRx rx)) rfl noReset).trans (exec_step_of_idle (s := s.withRx rx) idle).symm

end Sys2Proof.Machine
end

section
/-! The state machine of `STEP` follows the big-step pseudocode: line by line, where the pseudocode ends the machine ends in the
same state (43_dispatcher.md R244, R245). -/

namespace Sys2Proof.Machine

/-! ### The request that was answered is not read again -/

theorem State.withAwait_self {s : State} {a : Await} (h : s.await = a) : s.withAwait a = s := by
  subst h
  rfl

theorem State.withPhase_self {s : State} {p : Phase} (h : s.phase = p) : s.withPhase p = s := by
  subst h
  rfl

theorem callIteration_withAwait (s : State) (a : Await) : callIteration (s.withAwait a) = callIteration s := by
  have e : (s.withAwait a).iter[(s.withAwait a).iterIdx]? = s.iter[s.iterIdx]? := rfl
  unfold callIteration
  rw [e]
  cases s.iter[s.iterIdx]? <;> rfl

theorem enterIteration_withAwait (s : State) (a : Await) : enterIteration (s.withAwait a) = enterIteration s :=
  callIteration_withAwait ((s.withPhase .iterate).withIterIdx 0) a

theorem afterFrame_withAwait (s : State) (a : Await) : afterFrame (s.withAwait a) = afterFrame s := by
  unfold afterFrame
  rw [State.withAwait_cfg, enterIteration_withAwait]
  split <;> rfl

theorem handleFrame_withAwait (f : CanFrame) (s : State) (a : Await) : handleFrame f (s.withAwait a) = handleFrame f s := by
  unfold handleFrame
  rw [route_withAwait]
  cases route s f with
  | none => exact afterFrame_withAwait ((s.withPhase .dispatch).withCur f) a
  | some kh => rfl

theorem handleTimeout_withAwait (s : State) (a : Await) : handleTimeout (s.withAwait a) = handleTimeout s := by
  unfold handleTimeout
  rw [State.withAwait_tmo]
  split
  · rfl
  · exact enterIteration_withAwait (s.withPhase .tmout) a

theorem received_withAwait (r : Option CanFrame) (s : State) (a : Await) : received r (s.withAwait a) = received r s := by
  have e : (s.withAwait a).log (.recv r) = (s.log (.recv r)).withAwait a := rfl
  unfold received
  rw [e, State.withAwait_phase, handleTimeout_withAwait, enterIteration_withAwait]
  cases r with
  | none => rfl
  | some f => exact handleFrame_withAwait f _ a

theorem pendingAnswered_withAwait (p : Bool) (s : State) (a : Await) :
    pendingAnswered p (s.withAwait a) = pendingAnswered p s := by
  cases p with
  | true => rfl
  | false => exact enterIteration_withAwait (s.log (.pending false)) a

theorem sendReturned_withAwait (k : CbKind) (g : Option CanFrame) (s : State) (a : Await) :
    sendReturned k g (s.withAwait a) = (sendReturned k g s).withAwait a := by
  unfold sendReturned
  rw [State.withAwait_cfg]
  cases g with
  | none => rfl
  | some f => dsimp only; split <;> rfl

theorem afterCallback_withAwait (s : State) (a : Await) : afterCallback (s.withAwait a) = afterCallback s := by
  unfold afterCallback
  rw [State.withAwait_phase]
  cases s.phase with
  | dispatch => exact afterFrame_withAwait s a
  | tmout => exact enterIteration_withAwait s a
  | iterate => exact callIteration_withAwait (s.withIterIdx (s.iterIdx + 1)) a
  | idle | wait | faulted => rfl

theorem callbackAnswered_withAwait (req : CbRequest) (ans : Answer) (s : State) (a : Await) :
    callbackAnswered req ans (s.withAwait a) = callbackAnswered req ans s := by
  cases ans with
  | fault => rfl
  | ret g =>
    have e := sendReturned_withAwait req.kind g (s.log (.invoke req (.ret g))) a
    exact (congrArg afterCallback e).trans (afterCallback_withAwait _ a)

/-- The receive that was asked is answered (R245). -/
theorem advance_of_receive {s : State} {r : RecvResponse} {rest : List RecvResponse} (tm : Nat) (due : s.rxDue = r :: rest) :
    advance (s.withAwait (.receive tm)) = some (received r.meaning (s.takeRx rest)) := by
  simp only [advance, State.withAwait_await, State.withAwait_rxDue, due]
  exact congrArg some (received_withAwait r.meaning (s.takeRx rest) _)

/-- The question for more is answered (R247). -/
theorem advance_of_hasPending {s : State} {p : Bool} {rest : List Bool} (due : s.pendDue = p :: rest) :
    advance (s.withAwait .hasPending) = some (pendingAnswered p (s.takePend rest)) := by
  simp only [advance, State.withAwait_await, State.withAwait_pendDue, due]
  exact congrArg some (pendingAnswered_withAwait p (s.takePend rest) _)

/-- The callback that was entered answers (R304, R306). -/
theorem advance_enterCallback_of_answer {s : State} {r : CbResponse} {rest : List CbEvent} (req : CbRequest)
    (due : s.cbDue = .answer r :: rest) :
    advance (enterCallback req s) = some (callbackAnswered req r.meaning (s.takeCb rest)) :=
  (advance_of_answer (s := enterCallback req s) rfl due).trans
    (congrArg some (callbackAnswered_withAwait req r.meaning (s.takeCb rest) _))

/-! ### What it is for the machine to follow a run -/

/-- The machine, run on from `m`, ends in the state in which the run of the pseudocode ends, in success or in a failure. -/
def Follows (m : State) (r : Run) : Prop :=
  ∀ t : State, r = .going t ∨ r = .failed t → resume m = t

/-- A run that does not end is followed by every machine. -/
theorem follows_starved (m : State) : Follows m .starved := fun _ h => by
  obtain h | h := h <;> cases h

/-- One answer taken by the machine. -/
theorem Follows.of_advance {m m' : State} {r : Run} (h : advance m = some m') (follows : Follows m' r) : Follows m r :=
  fun t e => (resume_of_advance h).trans (follows t e)

theorem Run.andThen_assoc (r : Run) (k l : State → Run) :
    (r.andThen k).andThen l = r.andThen fun s => (k s).andThen l := by
  cases r <;> rfl

/-! ### `CALL` -/

/-- An invocation that returned: its event, and the frame sent when its kind sends (R250). -/
theorem bigCall_of_ret {s : State} {r : CbResponse} {rest : List CbEvent} {g : Option CanFrame} (req : CbRequest)
    (due : s.cbDue = .answer r :: rest) (meant : r.meaning = .ret g) :
    bigCall req.kind req.hid req.arg (sendEnabled s.cfg req.kind) s =
      .going (sendReturned req.kind g ((s.takeCb rest).log (.invoke req (.ret g)))) := by
  obtain ⟨kind, hid, arg⟩ := req
  cases g with
  | none => simp [bigCall, due, meant, sendReturned]
  | some f =>
    simp only [bigCall, due, meant, sendReturned, State.log_cfg, State.takeCb_cfg]
    rfl

/-- An invocation that failed ends the run (R251). -/
theorem bigCall_of_fault {s : State} {r : CbResponse} {rest : List CbEvent} (req : CbRequest) (sends : Bool)
    (due : s.cbDue = .answer r :: rest) (meant : r.meaning = .fault) :
    bigCall req.kind req.hid req.arg sends s =
      .failed ((((s.takeCb rest).log (.invoke req .fault)).withPhase .faulted).respond (refusedRsp .faulted)) := by
  simp [bigCall, due, meant]

/-- An invocation that is not answered, or not before a command of its own (R41). -/
theorem bigCall_of_noAnswer {s : State} (noAnswer : ∀ r rest, s.cbDue ≠ .answer r :: rest) (kind : CbKind) (hid : U32)
    (arg : Option CanFrame) (sends : Bool) : bigCall kind hid arg sends s = .starved := by
  unfold bigCall
  split
  · next r rest due => exact absurd due (noAnswer r rest)
  · rfl

/-- What an invocation leaves of the registers that the rest of a `STEP` reads. -/
structure CallKeeps (s u : State) : Prop where
  phase : u.phase = s.phase
  await : u.await = s.await
  iter : u.iter = s.iter
  iterIdx : u.iterIdx = s.iterIdx

theorem callKeeps_sendReturned (k : CbKind) (g : Option CanFrame) (s : State) : CallKeeps s (sendReturned k g s) := by
  obtain e | ⟨f, -, e⟩ := sendReturned_cases k g s <;> rw [e] <;> exact ⟨rfl, rfl, rfl, rfl⟩

/-- The machine follows `CALL` when it follows what comes after a return (R250, R251). -/
theorem follows_bigCall {s : State} {k : State → Run} (req : CbRequest) (free : s.await = .none)
    (next : ∀ u, CallKeeps s u → Follows (afterCallback u) (k u)) :
    Follows (enterCallback req s) ((bigCall req.kind req.hid req.arg (sendEnabled s.cfg req.kind) s).andThen k) := by
  by_cases answered : ∃ r rest, s.cbDue = .answer r :: rest
  · obtain ⟨r, rest, due⟩ := answered
    refine .of_advance (advance_enterCallback_of_answer req due) ?_
    cases meant : r.meaning with
    | ret g =>
      rw [bigCall_of_ret req due meant]
      obtain ⟨phase, await, iter, iterIdx⟩ := callKeeps_sendReturned req.kind g ((s.takeCb rest).log (.invoke req (.ret g)))
      exact next _ ⟨phase, await, iter, iterIdx⟩
    | fault =>
      rw [bigCall_of_fault req _ due meant]
      intro t h
      obtain h | h := h <;> cases h
      rw [callbackAnswered, resume_of_waiting rfl, failStep]
      exact congrArg (State.respond · _) (State.withAwait_self free)
  · rw [bigCall_of_noAnswer (by simpa using answered)]
    exact follows_starved _

/-! ### The iteration phase -/

/-- The iteration loop of `STEP` (R249). -/
def bigIterationPhase (s : State) : Run :=
  bigIterations s.iter ((s.withPhase .iterate).withIterIdx 0)

/-- The last line of `STEP` (R245). -/
def bigEnd (s : State) : Run :=
  .going ((s.withPhase .idle).respond okOnly)

theorem bigFinish_eq (s : State) : bigFinish s = (bigIterationPhase s).andThen bigEnd := rfl

theorem follows_bigEnd {s : State} (free : s.await = .none) : Follows (endStep s) (bigEnd s) := by
  intro t h
  obtain h | h := h <;> cases h
  rw [resume_of_waiting rfl, endStep, State.withAwait_self (s := s.withPhase .idle) free]

/-- The machine follows the iteration loop from every callback of the list on (R249). -/
theorem follows_bigIterations {rest : List U32} {s : State} (iterate : s.phase = .iterate) (free : s.await = .none)
    (left : s.iter.drop s.iterIdx = rest) : Follows (callIteration s) ((bigIterations rest s).andThen bigEnd) := by
  have here : s.iter[s.iterIdx]? = rest.head? := by rw [← left, List.head?_drop]
  induction rest generalizing s with
  | nil =>
    simp only [callIteration, here, List.head?_nil]
    exact follows_bigEnd free
  | cons hid rest ih =>
    simp only [callIteration, here, List.head?_cons, bigIterations, Run.andThen_assoc]
    refine follows_bigCall ⟨.iter, hid, none⟩ free fun u keeps => ?_
    rw [afterCallback_of_iterate (keeps.phase.trans iterate)]
    have left' : u.iter.drop (u.iterIdx + 1) = rest := by
      rw [keeps.iter, keeps.iterIdx, ← List.drop_drop, left, List.drop_one, List.tail_cons]
    refine ih (s := u.withIterIdx (u.iterIdx + 1)) (keeps.phase.trans iterate) (keeps.await.trans free) left' ?_
    rw [← left', List.head?_drop]
    rfl

theorem follows_bigFinish {s : State} (free : s.await = .none) : Follows (enterIteration s) (bigFinish s) :=
  bigFinish_eq s ▸ follows_bigIterations (s := (s.withPhase .iterate).withIterIdx 0) rfl free rfl

/-! ### The timeout -/

/-- The lines of `STEP` on a timeout (R248). -/
def bigTimeout (s : State) : Run :=
  if s.tmo.valid then bigCall .timeout s.tmo.hid none s.cfg.fallbackSends s else .going s

theorem follows_bigTimeout {s : State} (free : s.await = .none) :
    Follows (handleTimeout s) ((bigTimeout (s.withPhase .tmout)).andThen bigFinish) := by
  unfold handleTimeout bigTimeout
  rw [State.withPhase_tmo]
  split
  · refine follows_bigCall (s := s.withPhase .tmout) ⟨.timeout, s.tmo.hid, none⟩ free fun u keeps => ?_
    rw [afterCallback_of_tmout keeps.phase]
    exact follows_bigFinish (keeps.await.trans free)
  · exact follows_bigFinish free

/-! ### The frame loop -/

/-- The three ways of a frame: an entry of the table of its own kind, or none there (R246). -/
theorem route_cases (s : State) (f : CanFrame) :
    (∃ h, f.isRemoteRequest = false ∧ lookup s.dataTable f.identifier = some h) ∨
      (∃ h, f.isRemoteRequest = true ∧ lookup s.rtrTable f.identifier = some h) ∨
        lookup (ownTable s f) f.identifier = none := by
  unfold ownTable
  cases kind : f.isRemoteRequest with
  | false => cases entry : lookup s.dataTable f.identifier <;> simp [entry]
  | true => cases entry : lookup s.rtrTable f.identifier <;> simp [entry]

/-- The unmatched-handler is called by its own kind and tag (R239). -/
theorem fallback_eq_some {s : State} {k : CbKind} {h : U32} (called : fallback s = some (k, h)) :
    s.unm.valid = true ∧ k = .unmatched ∧ h = s.unm.hid := by
  cases valid : s.unm.valid with
  | false => simp [fallback, valid] at called
  | true =>
    simp only [fallback, valid, if_true, Option.some.injEq, Prod.mk.injEq] at called
    obtain ⟨rfl, rfl⟩ := called
    exact ⟨rfl, rfl, rfl⟩

theorem fallback_eq_none {s : State} (none : fallback s = none) : s.unm.valid = false := by
  cases valid : s.unm.valid with
  | false => rfl
  | true => simp [fallback, valid] at none

section
variable {s : State} {f : CanFrame} {k : CbKind} {h : U32}

/-- `HANDLE_FRAME` of a frame without an entry in the table of its own kind (R246). -/
theorem bigHandleFrame_of_unmatched (absent : lookup (ownTable s f) f.identifier = none) :
    bigHandleFrame f s =
      if s.unm.valid then bigCall .unmatched s.unm.hid (some f) s.cfg.fallbackSends s else .going s := by
  cases kind : f.isRemoteRequest with
  | false =>
    have absentData : lookup s.dataTable f.identifier = none := by simpa [ownTable, kind] using absent
    simp [bigHandleFrame, kind, absentData]
  | true =>
    have absentRtr : lookup s.rtrTable f.identifier = none := by simpa [ownTable, kind] using absent
    simp [bigHandleFrame, kind, absentRtr]

/-- `HANDLE_FRAME` of a frame that is routed to a callback (R246). -/
theorem bigHandleFrame_of_routed (routed : route s f = some (k, h)) :
    bigHandleFrame f s = bigCall k h (some f) (sendEnabled s.cfg k) s := by
  obtain ⟨hid, data, entry⟩ | ⟨hid, remote, entry⟩ | absent := route_cases s f
  · cases routed.symm.trans (route_of_data data entry)
    simp [bigHandleFrame, data, entry, sendEnabled]
  · cases routed.symm.trans (route_of_rtr remote entry)
    simp [bigHandleFrame, remote, entry, sendEnabled]
  · rw [route_of_unmatched absent] at routed
    obtain ⟨valid, rfl, rfl⟩ := fallback_eq_some routed
    rw [bigHandleFrame_of_unmatched absent, if_pos valid, sendEnabled]

/-- `HANDLE_FRAME` of a frame that is dropped (R254). -/
theorem bigHandleFrame_of_dropped (dropped : route s f = none) : bigHandleFrame f s = .going s := by
  obtain ⟨hid, data, entry⟩ | ⟨hid, remote, entry⟩ | absent := route_cases s f
  · cases dropped.symm.trans (route_of_data data entry)
  · cases dropped.symm.trans (route_of_rtr remote entry)
  · rw [route_of_unmatched absent] at dropped
    simp [bigHandleFrame_of_unmatched absent, fallback_eq_none dropped]

end

/-- A received frame is handled (R245). -/
theorem received_some (f : CanFrame) (s : State) : received (some f) s = handleFrame f (s.log (.recv (some f))) := rfl

/-- What the frame loop does after a frame was handled, `n` rounds being left (R247). -/
def bigMore (n : Nat) (s : State) : Run :=
  if s.cfg.drainQueue = false then .going s
  else
    bigPending s fun p s =>
      if p = false then .going s
      else
        bigReceive s fun r s =>
          match r with
          | none => .going s
          | some g => bigFrames n g s

theorem bigFrames_succ (n : Nat) (f : CanFrame) (s : State) :
    bigFrames (n + 1) f s = (bigHandleFrame f (s.withCur f)).andThen (bigMore n) := rfl

section
variable {n : Nat} {s : State}

/-- Without drain mode the loop is over (R247). -/
theorem bigMore_of_noDrain (off : s.cfg.drainQueue = false) : bigMore n s = .going s := by
  simp [bigMore, off]

theorem bigMore_of_noPending (drain : s.cfg.drainQueue = true) (due : s.pendDue = []) : bigMore n s = .starved := by
  simp [bigMore, drain, bigPending, due]

/-- The transport has no more: the loop is over (R247). -/
theorem bigMore_of_last {rest : List Bool} (drain : s.cfg.drainQueue = true) (due : s.pendDue = false :: rest) :
    bigMore n s = .going ((s.takePend rest).log (.pending false)) := by
  simp [bigMore, drain, bigPending, due]

/-- The transport has more but no answer to the receive has come. -/
theorem bigMore_of_noReceive {rest : List Bool} (drain : s.cfg.drainQueue = true) (due : s.pendDue = true :: rest)
    (rxDue : s.rxDue = []) : bigMore n s = .starved := by
  simp [bigMore, drain, bigPending, due, bigReceive, rxDue]

/-- The receive that follows is answered `None`: the loop is over (R247). -/
theorem bigMore_of_none {rest : List Bool} {r : RecvResponse} {rx : List RecvResponse} (drain : s.cfg.drainQueue = true)
    (due : s.pendDue = true :: rest) (rxDue : s.rxDue = r :: rx) (meant : r.meaning = none) :
    bigMore n s = .going ((((s.takePend rest).log (.pending true)).takeRx rx).log (.recv none)) := by
  simp [bigMore, drain, bigPending, due, bigReceive, rxDue, meant]

/-- The receive that follows brings a frame, which begins the next round (R247). -/
theorem bigMore_of_frame {rest : List Bool} {r : RecvResponse} {rx : List RecvResponse} {g : CanFrame}
    (drain : s.cfg.drainQueue = true) (due : s.pendDue = true :: rest) (rxDue : s.rxDue = r :: rx)
    (meant : r.meaning = some g) :
    bigMore n s = bigFrames n g ((((s.takePend rest).log (.pending true)).takeRx rx).log (.recv (some g))) := by
  simp [bigMore, drain, bigPending, due, bigReceive, rxDue, meant]

/-- The machine follows the end of a round when it follows the rounds after it (R247). -/
theorem follows_bigMore (dispatch : s.phase = .dispatch) (free : s.await = .none)
    (rounds : ∀ (f : CanFrame) (u : State), u.phase = .dispatch → u.await = .none →
      Follows (handleFrame f u) ((bigFrames n f u).andThen bigFinish)) :
    Follows (afterFrame s) ((bigMore n s).andThen bigFinish) := by
  unfold afterFrame
  cases drain : s.cfg.drainQueue with
  | false =>
    rw [bigMore_of_noDrain drain]
    exact follows_bigFinish free
  | true =>
    rw [if_pos rfl]
    cases due : s.pendDue with
    | nil =>
      rw [bigMore_of_noPending drain due]
      exact follows_starved _
    | cons p rest =>
      refine .of_advance (advance_of_hasPending due) ?_
      cases p with
      | false =>
        rw [bigMore_of_last drain due]
        exact follows_bigFinish (by simpa using free)
      | true =>
        cases rxDue : s.rxDue with
        | nil =>
          rw [bigMore_of_noReceive drain due rxDue]
          exact follows_starved _
        | cons r rx =>
          refine .of_advance (advance_of_receive (s := (s.takePend rest).log (.pending true)) s.cfg.timeout rxDue) ?_
          cases meant : r.meaning with
          | none =>
            rw [bigMore_of_none drain due rxDue meant,
              received_none_of_dispatch (by simpa using dispatch)]
            exact follows_bigFinish (by simpa using free)
          | some g =>
            rw [bigMore_of_frame drain due rxDue meant, received_some]
            exact rounds g _ (by simpa using dispatch) (by simpa using free)

end

/-- The machine follows the frame loop, with the iteration phase after it (R245, R247). -/
theorem follows_bigFrames (n : Nat) (f : CanFrame) {s : State} (dispatch : s.phase = .dispatch) (free : s.await = .none) :
    Follows (handleFrame f s) ((bigFrames n f s).andThen bigFinish) := by
  induction n generalizing f s with
  | zero => exact follows_starved _
  | succ n ih =>
    have more : ∀ u : State, u.phase = .dispatch → u.await = .none →
        Follows (afterFrame u) ((bigMore n u).andThen bigFinish) :=
      fun u hu freeU => follows_bigMore hu freeU fun g v hv freeV => ih g hv freeV
    rw [bigFrames_succ, handleFrame, State.withPhase_self dispatch, Run.andThen_assoc]
    cases routed : route s f with
    | none =>
      rw [bigHandleFrame_of_dropped (s := s.withCur f) routed]
      exact more (s.withCur f) dispatch free
    | some kh =>
      obtain ⟨k, h⟩ := kh
      rw [bigHandleFrame_of_routed (s := s.withCur f) routed]
      refine follows_bigCall (s := s.withCur f) ⟨k, h, some f⟩ free fun u keeps => ?_
      rw [afterCallback_of_dispatch (keeps.phase.trans dispatch)]
      exact more u (keeps.phase.trans dispatch) (keeps.await.trans free)

/-! ### A whole `STEP` -/

section
variable {s : State} {r : RecvResponse} {rx : List RecvResponse}

theorem bigStep_of_noReceive (due : s.rxDue = []) : bigStep s = .starved := by
  simp [bigStep, bigReceive, due]

/-- The pseudocode on a received frame (R245). -/
theorem bigStep_of_frame {f : CanFrame} (due : s.rxDue = r :: rx) (meant : r.meaning = some f) :
    bigStep s =
      (bigFrames (s.pend.length + 1) f (((s.takeRx rx).log (.recv (some f))).withPhase .dispatch)).andThen bigFinish := by
  simp only [bigStep, bigReceive, State.withPhase_rxDue, due, meant]
  rfl

/-- The pseudocode on a timeout (R245, R248). -/
theorem bigStep_of_timeout (due : s.rxDue = r :: rx) (meant : r.meaning = none) :
    bigStep s = (bigTimeout (((s.takeRx rx).log (.recv none)).withPhase .tmout)).andThen bigFinish := by
  simp only [bigStep, bigReceive, State.withPhase_rxDue, due, meant]
  rfl

end

/-- The accepted `STEP` follows the pseudocode of its body (R245). -/
theorem follows_bigStep {s : State} (free : s.await = .none) : Follows (beginStep s) (bigStep s) := by
  cases due : s.rxDue with
  | nil =>
    rw [bigStep_of_noReceive due]
    exact follows_starved _
  | cons r rx =>
    refine .of_advance (advance_of_receive (s := s.withPhase .wait) s.cfg.timeout due) ?_
    cases meant : r.meaning with
    | none =>
      rw [bigStep_of_timeout due meant]
      exact follows_bigTimeout (s := (s.takeRx rx).log (.recv none)) free
    | some f =>
      rw [bigStep_of_frame due meant]
      exact follows_bigFrames _ f (s := ((s.takeRx rx).log (.recv (some f))).withPhase .dispatch) rfl free

/-- Settles O48: by what the accepted `STEP` follows. -/
theorem stepAgreesWithPseudocode : Obligations.StepAgreesWithPseudocode := fun _ t idle free ends =>
  (exec_step_of_idle idle).trans (congrArg Host.Outcome.next (follows_bigStep free t ends))

end Sys2Proof.Machine
end

section
/-! A `STEP` whose callbacks all answer runs to its end: by the pseudocode, which the machine follows (43_dispatcher.md R245 to
R250, R254). A part of the run is described by the invocations it makes, in order, and the frames they return. -/

namespace Sys2Proof.Machine

/-! ### Answers that have come -/

/-- The callback agent's next events are answers that return the frames `gs`, one each; `cb` comes after them. -/
def Returns (due : List CbEvent) (gs : List (Option CanFrame)) (cb : List CbEvent) : Prop :=
  ∃ answers : List CbResponse, due = answers.map CbEvent.answer ++ cb ∧ answers.map CbResponse.meaning = gs.map Answer.ret

theorem returns_nil {due cb : List CbEvent} (h : Returns due [] cb) : due = cb := by
  obtain ⟨answers, rfl, meant⟩ := h
  obtain rfl : answers = [] := by simpa using meant
  rfl

theorem returns_cons {due cb : List CbEvent} {g : Option CanFrame} {gs : List (Option CanFrame)}
    (h : Returns due (g :: gs) cb) : ∃ r rest, due = .answer r :: rest ∧ r.meaning = .ret g ∧ Returns rest gs cb := by
  obtain ⟨answers, rfl, meant⟩ := h
  cases answers with
  | nil => simp at meant
  | cons r answers =>
    simp only [List.map_cons, List.cons.injEq] at meant
    obtain ⟨first, others⟩ := meant
    exact ⟨r, _, rfl, first, answers, rfl, others⟩

/-! ### What a part of a run leaves -/

/-- From `s` to `t` these events were logged, and these answers of the transport are left; the block's state, the request and
the responses are as they were. -/
structure Ran (s t : State) (events : List Event) (rx : List RecvResponse) (pend : List Bool) : Prop
    extends SameBlock s t where
  await : t.await = s.await
  rsps : t.rsps = s.rsps
  trace : t.trace = s.trace ++ events
  rxDue : t.rxDue = rx
  pendDue : t.pendDue = pend

theorem Ran.trans {s t u : State} {a b : List Event} {rx rx' : List RecvResponse} {pend pend' : List Bool}
    (first : Ran s t a rx pend) (second : Ran t u b rx' pend') : Ran s u (a ++ b) rx' pend' where
  toSameBlock := first.toSameBlock.trans second.toSameBlock
  await := second.await.trans first.await
  rsps := second.rsps.trans first.rsps
  trace := by rw [second.trace, first.trace, List.append_assoc]
  rxDue := second.rxDue
  pendDue := second.pendDue

theorem ran_withPhase (s : State) (p : Phase) : Ran s (s.withPhase p) [] s.rxDue s.pendDue :=
  ⟨(sameBut_withPhase s p).toSameBlock, rfl, rfl, (List.append_nil _).symm, rfl, rfl⟩

theorem ran_withIterIdx (s : State) (n : Nat) : Ran s (s.withIterIdx n) [] s.rxDue s.pendDue :=
  ⟨(sameBut_withIterIdx s n).toSameBlock, rfl, rfl, (List.append_nil _).symm, rfl, rfl⟩

theorem ran_withCur (s : State) (f : CanFrame) : Ran s (s.withCur f) [] s.rxDue s.pendDue :=
  ⟨(sameBut_withCur s f).toSameBlock, rfl, rfl, (List.append_nil _).symm, rfl, rfl⟩

/-- A receive and its event (R262). -/
theorem ran_receive (s : State) (rx : List RecvResponse) (r : Option CanFrame) :
    Ran s ((s.takeRx rx).log (.recv r)) [.recv r] rx s.pendDue :=
  ⟨(sameBlock_takeRx s rx).trans (sameBut_log _ _).toSameBlock, rfl, rfl, rfl, rfl, rfl⟩

/-- A question for more and its event (R262). -/
theorem ran_pending (s : State) (pend : List Bool) (p : Bool) :
    Ran s ((s.takePend pend).log (.pending p)) [.pending p] s.rxDue pend :=
  ⟨(sameBlock_takePend s pend).trans (sameBut_log _ _).toSameBlock, rfl, rfl, rfl, rfl, rfl⟩

/-- The events of a returned invocation (R250, R262). -/
theorem sendReturned_trace (req : CbRequest) (g : Option CanFrame) (s : State) :
    (sendReturned req.kind g (s.log (.invoke req (.ret g)))).trace = s.trace ++ callEvents s.cfg req g := by
  rw [← callbackAnswered_ret_trace req g s, callbackAnswered, (silent_afterCallback _).trace]

theorem sendReturned_registers (k : CbKind) (g : Option CanFrame) (s : State) :
    (sendReturned k g s).await = s.await ∧ (sendReturned k g s).rsps = s.rsps ∧ (sendReturned k g s).cbDue = s.cbDue ∧
      (sendReturned k g s).rxDue = s.rxDue ∧ (sendReturned k g s).pendDue = s.pendDue := by
  obtain e | ⟨f, -, e⟩ := sendReturned_cases k g s <;> rw [e] <;> exact ⟨rfl, rfl, rfl, rfl, rfl⟩

/-! ### Rows of invocations -/

/-- The part `r` of the run, begun in `s`, makes these invocations and goes on, whatever frames they return: it takes their
answers only, and logs their events only. -/
def Serves (s : State) (calls : List CbRequest) (r : Run) : Prop :=
  ∀ (gs hs : List (Option CanFrame)) (cb : List CbEvent), gs.length = calls.length → Returns s.cbDue (gs ++ hs) cb →
    ∃ t : State, r = .going t ∧ Ran s t (callsEvents s.cfg calls gs) s.rxDue s.pendDue ∧ Returns t.cbDue hs cb

/-- A part without invocations. -/
theorem serves_going {s t : State} (ran : Ran s t [] s.rxDue s.pendDue) (cbDue : t.cbDue = s.cbDue) :
    Serves s [] (.going t) := by
  intro gs hs cb len returns
  obtain rfl : gs = [] := List.length_eq_zero_iff.mp len
  exact ⟨t, rfl, ran, cbDue ▸ returns⟩

theorem serves_self (s : State) : Serves s [] (.going s) :=
  serves_going ⟨(SameBut.refl s).toSameBlock, rfl, rfl, (List.append_nil _).symm, rfl, rfl⟩ rfl

theorem callsEvents_singleton (cfg : Params) (req : CbRequest) (g : Option CanFrame) :
    callsEvents cfg [req] [g] = callEvents cfg req g := by
  simp [callsEvents]

/-- One `CALL` (R250). -/
theorem serves_bigCall (s : State) (req : CbRequest) :
    Serves s [req] (bigCall req.kind req.hid req.arg (sendEnabled s.cfg req.kind) s) := by
  intro gs hs cb len returns
  obtain ⟨g, rfl⟩ := List.length_eq_one_iff.mp len
  obtain ⟨r, rest, due, meant, returns'⟩ := returns_cons returns
  obtain ⟨await, rsps, cbDue, rxDue, pendDue⟩ := sendReturned_registers req.kind g ((s.takeCb rest).log (.invoke req (.ret g)))
  have same := (sameBlock_takeCb s rest).trans
    ((sameBut_log _ _).trans (sameBut_sendReturned req.kind g ((s.takeCb rest).log (.invoke req (.ret g))))).toSameBlock
  refine ⟨_, bigCall_of_ret req due meant, ⟨same, await, rsps, ?_, rxDue, pendDue⟩, ?_⟩
  · rw [sendReturned_trace, callsEvents_singleton]
    rfl
  · rw [cbDue]
    exact returns'

/-- The events of two rows of invocations, one after the other. -/
theorem callsEvents_append (cfg : Params) {a : List CbRequest} {gs : List (Option CanFrame)} (len : gs.length = a.length)
    (b : List CbRequest) (hs : List (Option CanFrame)) :
    callsEvents cfg (a ++ b) (gs ++ hs) = callsEvents cfg a gs ++ callsEvents cfg b hs := by
  induction a generalizing gs with
  | nil =>
    obtain rfl := List.length_eq_zero_iff.mp len
    rfl
  | cons req a ih =>
    cases gs with
    | nil => simp at len
    | cons g gs =>
      simp only [List.cons_append, callsEvents, List.append_assoc]
      rw [ih (by simpa using len)]

/-- Two parts of a run, one after the other. -/
theorem Serves.andThen {s : State} {a b : List CbRequest} {r : Run} {k : State → Run} (first : Serves s a r)
    (second : ∀ t, SameBlock s t → Serves t b (k t)) : Serves s (a ++ b) (r.andThen k) := by
  intro gs hs cb len returns
  have lenFirst : (gs.take a.length).length = a.length := by simp [len]
  have lenSecond : (gs.drop a.length).length = b.length := by simp [len]
  rw [← List.take_append_drop a.length gs, List.append_assoc] at returns
  obtain ⟨t, rfl, ranFirst, returns'⟩ := first _ _ cb lenFirst returns
  obtain ⟨u, e, ranSecond, returns''⟩ := second t ranFirst.toSameBlock _ _ cb lenSecond returns'
  refine ⟨u, e, ?_, returns''⟩
  rw [ranFirst.cfg, ranFirst.rxDue, ranFirst.pendDue] at ranSecond
  rw [← List.take_append_drop a.length gs, callsEvents_append s.cfg lenFirst]
  exact ranFirst.trans ranSecond

/-- The registers may be set before a part of a run. -/
theorem Serves.after {s t : State} {b : List CbRequest} {r : Run} (second : Serves t b r) (first : Serves s [] (.going t)) :
    Serves s b r := by
  intro gs hs cb len returns
  obtain ⟨u, e, ran, returns'⟩ := first [] (gs ++ hs) cb rfl returns
  cases e
  obtain ⟨u, e, ran', returns''⟩ := second gs hs cb len returns'
  rw [ran.rxDue, ran.pendDue, ran.cfg] at ran'
  exact ⟨u, e, ran.trans ran', returns''⟩

/-! ### The parts of `STEP` -/

theorem serves_bigIterations (hids : List U32) (s : State) :
    Serves s (hids.map fun h => ⟨.iter, h, none⟩) (bigIterations hids s) := by
  induction hids generalizing s with
  | nil => exact serves_self s
  | cons hid hids ih =>
    refine Serves.andThen (a := [⟨.iter, hid, none⟩]) (serves_bigCall s ⟨.iter, hid, none⟩) fun t _ => ?_
    exact (ih _).after (serves_going (ran_withIterIdx t _) rfl)

/-- The iteration phase invokes every callback of the list once, in order (R249). -/
theorem serves_bigIterationPhase (s : State) : Serves s (iterationCalls s) (bigIterationPhase s) :=
  ((serves_bigIterations s.iter _).after (serves_going (ran_withIterIdx (s.withPhase .iterate) 0) rfl)).after
    (serves_going (ran_withPhase s .iterate) rfl)

theorem Serves.iterationPhase {s : State} {calls : List CbRequest} {r : Run} (first : Serves s calls r) :
    Serves s (calls ++ iterationCalls s) (r.andThen bigIterationPhase) :=
  first.andThen fun t same => by
    have e : iterationCalls t = iterationCalls s := by simp [iterationCalls, same.iter]
    exact e ▸ serves_bigIterationPhase t

/-- A timeout invokes the timeout-handler when one is set (R248). -/
theorem serves_bigTimeout (s : State) : Serves s (timeoutCalls s) (bigTimeout s) := by
  unfold timeoutCalls bigTimeout
  split
  · exact serves_bigCall s ⟨.timeout, s.tmo.hid, none⟩
  · exact serves_self s

/-- `frameCalls` reads the tables as `lookup` does. -/
theorem lookup_eq_find? (t : List Entry) (k : U32) : lookup t k = (t.find? fun e => e.key == k).map Entry.hid := by
  induction t with
  | nil => rfl
  | cons e t ih =>
    by_cases h : e.key = k
    · simp [lookup, h]
    · simp [lookup, h, ih]

section
variable {s : State} {f : CanFrame}

theorem frameCalls_of_data {h : U32} (data : f.isRemoteRequest = false) (entry : lookup s.dataTable f.identifier = some h) :
    frameCalls s f = [⟨.data, h, some f⟩] := by
  rw [lookup_eq_find?, Option.map_eq_some_iff] at entry
  obtain ⟨e, found, rfl⟩ := entry
  simp [frameCalls, data, found]

theorem frameCalls_of_rtr {h : U32} (remote : f.isRemoteRequest = true) (entry : lookup s.rtrTable f.identifier = some h) :
    frameCalls s f = [⟨.rtr, h, some f⟩] := by
  rw [lookup_eq_find?, Option.map_eq_some_iff] at entry
  obtain ⟨e, found, rfl⟩ := entry
  simp [frameCalls, remote, found]

theorem frameCalls_of_unmatched (absent : lookup (ownTable s f) f.identifier = none) :
    frameCalls s f = if s.unm.valid then [⟨.unmatched, s.unm.hid, some f⟩] else [] := by
  rw [lookup_eq_find?, Option.map_eq_none_iff, ownTable] at absent
  simp only [frameCalls, absent]

/-- The invocation of a frame that is routed to a callback (R246). -/
theorem frameCalls_of_routed {k : CbKind} {h : U32} (routed : route s f = some (k, h)) :
    frameCalls s f = [⟨k, h, some f⟩] := by
  obtain ⟨hid, data, entry⟩ | ⟨hid, remote, entry⟩ | absent := route_cases s f
  · cases routed.symm.trans (route_of_data data entry)
    exact frameCalls_of_data data entry
  · cases routed.symm.trans (route_of_rtr remote entry)
    exact frameCalls_of_rtr remote entry
  · rw [route_of_unmatched absent] at routed
    obtain ⟨valid, rfl, rfl⟩ := fallback_eq_some routed
    rw [frameCalls_of_unmatched absent, if_pos valid]

/-- A frame that is dropped has none (R254). -/
theorem frameCalls_of_dropped (dropped : route s f = none) : frameCalls s f = [] := by
  obtain ⟨hid, data, entry⟩ | ⟨hid, remote, entry⟩ | absent := route_cases s f
  · cases dropped.symm.trans (route_of_data data entry)
  · cases dropped.symm.trans (route_of_rtr remote entry)
  · rw [route_of_unmatched absent] at dropped
    simp [frameCalls_of_unmatched absent, fallback_eq_none dropped]

/-- A frame that is not dropped has one. -/
theorem length_frameCalls (routed : frameCalls s f ≠ []) : (frameCalls s f).length = 1 := by
  cases kh : route s f with
  | none => exact absurd (frameCalls_of_dropped kh) routed
  | some kh' => rw [frameCalls_of_routed kh, List.length_singleton]

end

/-- A frame's handling invokes the callback it is routed to, if there is one (R246, R254). -/
theorem serves_bigHandleFrame (f : CanFrame) (s : State) : Serves s (frameCalls s f) (bigHandleFrame f s) := by
  cases routed : route s f with
  | none =>
    rw [frameCalls_of_dropped routed, bigHandleFrame_of_dropped routed]
    exact serves_self s
  | some kh =>
    obtain ⟨k, h⟩ := kh
    rw [frameCalls_of_routed routed, bigHandleFrame_of_routed routed]
    exact serves_bigCall s ⟨k, h, some f⟩

/-- Without drain mode the frame loop handles one frame (R247). -/
theorem serves_bigFrames_of_noDrain (n : Nat) (f : CanFrame) {s : State} (off : s.cfg.drainQueue = false) :
    Serves s (frameCalls s f) (bigFrames (n + 1) f s) := by
  have handled : Serves (s.withCur f) (frameCalls s f ++ []) (bigFrames (n + 1) f s) := by
    rw [bigFrames_succ]
    refine (serves_bigHandleFrame f (s.withCur f)).andThen fun t same => ?_
    rw [bigMore_of_noDrain (by rw [same.cfg]; exact off)]
    exact serves_self t
  rw [List.append_nil] at handled
  exact handled.after (serves_going (ran_withCur s f) rfl)

/-! ### A drained row of frames -/

theorem frameCalls_of_sameBlock {s t : State} (same : SameBlock s t) (f : CanFrame) : frameCalls t f = frameCalls s f := by
  simp [frameCalls, same.dataTable, same.rtrTable, same.unm]

/-- One round of the frame loop, of a frame that is routed to a callback: its invocation, and then what follows it. -/
theorem bigFrames_round {b s : State} {f : CanFrame} {g : Option CanFrame} {gs : List (Option CanFrame)} {cb : List CbEvent}
    (n : Nat) (same : SameBlock b s) (routed : frameCalls b f ≠ []) (returns : Returns s.cbDue (g :: gs) cb) :
    ∃ u, bigFrames (n + 1) f s = bigMore n u ∧ SameBlock b u ∧
      Ran s u (callsEvents b.cfg (frameCalls b f) [g]) s.rxDue s.pendDue ∧ Returns u.cbDue gs cb := by
  have calls : frameCalls (s.withCur f) f = frameCalls b f :=
    frameCalls_of_sameBlock (same.trans (sameBut_withCur s f).toSameBlock) f
  have len : [g].length = (frameCalls (s.withCur f) f).length := by rw [calls, length_frameCalls routed]; rfl
  obtain ⟨u, handled, ran, returns'⟩ := serves_bigHandleFrame f (s.withCur f) [g] gs cb len returns
  rw [calls, State.withCur_cfg, same.cfg] at ran
  have ranS := (ran_withCur s f).trans ran
  exact ⟨u, by rw [bigFrames_succ, handled, Run.andThen], same.trans ranS.toSameBlock, ranS, returns'⟩

/-- In drain mode the frame loop handles the queued frames in order, asking for more after each; what is left on the ports is
what came after (R247). The routing state is that of `b`, which no part of a `STEP` changes. -/
theorem bigFrames_drain {b : State} (drain : b.cfg.drainQueue = true) {hs : List (Option CanFrame)} {cb : List CbEvent}
    {rx : List RecvResponse} {pend : List Bool} {f : CanFrame} {fs : List CanFrame} {n : Nat} {s : State}
    {gs : List (Option CanFrame)} (same : SameBlock b s) (rounds : fs.length < n)
    (rxDue : s.rxDue = fs.map (fun g => ⟨true, g⟩) ++ rx) (pendDue : s.pendDue = fs.map (fun _ => true) ++ false :: pend)
    (routed : ∀ g ∈ f :: fs, frameCalls b g ≠ []) (len : gs.length = (f :: fs).length)
    (returns : Returns s.cbDue (gs ++ hs) cb) :
    ∃ t events, bigFrames n f s = .going t ∧ drainEvents b (f :: fs) gs = .recv (some f) :: events ∧
      Ran s t events rx pend ∧ Returns t.cbDue hs cb := by
  induction fs generalizing f n s gs with
  | nil =>
    obtain ⟨n, rfl⟩ : ∃ m, n = m + 1 := ⟨n - 1, by omega⟩
    obtain ⟨g, rfl⟩ := List.length_eq_one_iff.mp len
    obtain ⟨u, handled, sameU, ran, returns'⟩ := bigFrames_round n same (routed f (by simp)) returns
    have drainU : u.cfg.drainQueue = true := by rw [sameU.cfg, drain]
    have last := ran_pending u pend false
    rw [ran.rxDue.trans rxDue] at last
    exact ⟨_, _, handled.trans (bigMore_of_last drainU (ran.pendDue.trans pendDue)), rfl, ran.trans last, returns'⟩
  | cons f' fs ih =>
    obtain ⟨n, rfl⟩ : ∃ m, n = m + 1 := ⟨n - 1, by omega⟩
    obtain ⟨g, gs, rfl⟩ := List.exists_cons_of_length_eq_add_one len
    obtain ⟨u, handled, sameU, ran, returns'⟩ := bigFrames_round n same (routed f (by simp)) returns
    have drainU : u.cfg.drainQueue = true := by rw [sameU.cfg, drain]
    have pendU : u.pendDue = true :: (fs.map (fun _ => true) ++ false :: pend) := ran.pendDue.trans pendDue
    have rxU : u.rxDue = ⟨true, f'⟩ :: (fs.map (fun g => ⟨true, g⟩) ++ rx) := ran.rxDue.trans rxDue
    have more := bigMore_of_frame (n := n) (g := f') drainU pendU rxU rfl
    have asked := (ran_pending u (fs.map (fun _ => true) ++ false :: pend) true).trans
      (ran_receive _ (fs.map (fun g => ⟨true, g⟩) ++ rx) (some f'))
    obtain ⟨t, events, run, drained, ranRest, returnsRest⟩ := ih (sameU.trans asked.toSameBlock) (by simpa using rounds)
      asked.rxDue asked.pendDue (fun h hh => routed h (List.mem_cons_of_mem f hh)) (by simpa using len)
      (by simpa using returns')
    refine ⟨t, _, handled.trans (more.trans run), ?_, (ran.trans asked).trans ranRest, returnsRest⟩
    simp [drainEvents, drained]

/-! ### A whole `STEP` -/

/-- A `STEP` does not read the request that stands when it is accepted, since in `IDLE` there is none (R30, R245). -/
theorem exec_step_of_bigStep {s t : State} (idle : s.phase = .idle) (run : bigStep (s.withAwait .none) = bigEnd t) :
    exec .step s = .next ((t.withPhase .idle).respond okOnly) :=
  (exec_step_of_idle idle).trans (congrArg Host.Outcome.next (follows_bigStep (s := s.withAwait .none) rfl _ (.inl run)))

/-- How a `STEP` stands that ended `OK`: events logged, and what is left of the answers on the ports. -/
structure StepEnded (s t : State) (events : List Event) (rx : List RecvResponse) (pend : List Bool) (cb : List CbEvent) :
    Prop extends SameBlock s t where
  trace : t.trace = s.trace ++ events
  rsps : t.rsps = s.rsps ++ [⟨.ok, 0, 0, 0, 0⟩]
  phase : t.phase = .idle
  await : t.await = .none
  rxDue : t.rxDue = rx
  pendDue : t.pendDue = pend
  cbDue : t.cbDue = cb

/-- Where the pseudocode comes to its last line, the machine's `STEP` ends `OK` (R245). -/
theorem stepEnded_of_ran {s t : State} {events : List Event} {rx : List RecvResponse} {pend : List Bool} {cb : List CbEvent}
    (idle : s.phase = .idle) (run : bigStep (s.withAwait .none) = bigEnd t) (ran : Ran (s.withAwait .none) t events rx pend)
    (returns : Returns t.cbDue [] cb) : ∃ u, exec .step s = .next u ∧ StepEnded s u events rx pend cb :=
  ⟨_, exec_step_of_bigStep idle run,
    { toSameBlock := (sameBut_withAwait s _).toSameBlock.trans
        (ran.toSameBlock.trans ((sameBut_withPhase t _).trans (sameBut_respond _ _)).toSameBlock)
      trace := by simpa using ran.trace
      rsps := by simpa [okOnly, okRsp] using ran.rsps
      phase := by simp
      await := by simpa using ran.await
      rxDue := by simpa using ran.rxDue
      pendDue := by simpa using ran.pendDue
      cbDue := by simpa using returns_nil returns }⟩

/-- The pseudocode's state when the first receive of a `STEP` is answered `m`, which leads it to the phase `p` (R245). -/
def firstReceived (s : State) (rx : List RecvResponse) (m : Option CanFrame) (p : Phase) : State :=
  (((s.withAwait .none).takeRx rx).log (.recv m)).withPhase p

theorem ran_firstReceived (s : State) (rx : List RecvResponse) (m : Option CanFrame) (p : Phase) :
    Ran (s.withAwait .none) (firstReceived s rx m p) [.recv m] rx s.pendDue :=
  (ran_receive (s.withAwait .none) rx m).trans (ran_withPhase _ p)

theorem sameBlock_firstReceived (s : State) (rx : List RecvResponse) (m : Option CanFrame) (p : Phase) :
    SameBlock s (firstReceived s rx m p) :=
  (sameBut_withAwait s .none).toSameBlock.trans (ran_firstReceived s rx m p).toSameBlock

@[simp] theorem firstReceived_cbDue (s : State) (rx : List RecvResponse) (m : Option CanFrame) (p : Phase) :
    (firstReceived s rx m p).cbDue = s.cbDue := by
  simp [firstReceived]

/-- The pseudocode's runs on a timeout and on a frame, up to the last line. -/
theorem bigStep_withAwait_of_timeout {s : State} {r : RecvResponse} {rx : List RecvResponse} (due : s.rxDue = r :: rx)
    (meant : r.meaning = none) :
    bigStep (s.withAwait .none) =
      ((bigTimeout (firstReceived s rx none .tmout)).andThen bigIterationPhase).andThen bigEnd := by
  rw [Run.andThen_assoc, bigStep_of_timeout (s := s.withAwait .none) due meant]
  rfl

theorem bigStep_withAwait_of_frame {s : State} {r : RecvResponse} {rx : List RecvResponse} {f : CanFrame}
    (due : s.rxDue = r :: rx) (meant : r.meaning = some f) :
    bigStep (s.withAwait .none) =
      ((bigFrames (s.pend.length + 1) f (firstReceived s rx (some f) .dispatch)).andThen bigIterationPhase).andThen
        bigEnd := by
  rw [Run.andThen_assoc, bigStep_of_frame (s := s.withAwait .none) due meant]
  rfl

/-- A `STEP` of which the part after the first receive makes `calls`, all answered, and only the last line follows. -/
theorem stepEnded_of_serves {s : State} {rx : List RecvResponse} {m : Option CanFrame} {p : Phase} {calls : List CbRequest}
    {gs : List (Option CanFrame)} {cb : List CbEvent} {part : Run} (idle : s.phase = .idle)
    (run : bigStep (s.withAwait .none) = part.andThen bigEnd) (serves : Serves (firstReceived s rx m p) calls part)
    (len : gs.length = calls.length) (returns : Returns s.cbDue gs cb) :
    ∃ u, exec .step s = .next u ∧ StepEnded s u (.recv m :: callsEvents s.cfg calls gs) rx s.pendDue cb := by
  rw [← List.append_nil gs] at returns
  obtain ⟨t, rfl, ran, returns'⟩ := serves gs [] cb len (by rw [firstReceived_cbDue]; exact returns)
  have received := ran_firstReceived s rx m p
  rw [(sameBlock_firstReceived s rx m p).cfg, received.rxDue, received.pendDue] at ran
  exact stepEnded_of_ran idle run (received.trans ran) returns'

theorem timeoutCalls_of_sameBlock {s t : State} (same : SameBlock s t) : timeoutCalls t = timeoutCalls s := by
  simp [timeoutCalls, same.tmo]

theorem iterationCalls_of_sameBlock {s t : State} (same : SameBlock s t) : iterationCalls t = iterationCalls s := by
  simp [iterationCalls, same.iter]

/-- As many answers as the frames they return. -/
theorem length_of_meanings {answers : List CbResponse} {gs : List (Option CanFrame)}
    (meant : answers.map CbResponse.meaning = gs.map Answer.ret) : gs.length = answers.length := by
  simpa using (congrArg List.length meant).symm

/-- Settles O45: the timeout, the iteration phase, and the last line. -/
theorem stepOnTimeout : Obligations.StepOnTimeout := by
  intro s r rx answers gs cb idle due noFrame cbDue meant len
  have timeout : r.meaning = none := by simp [RecvResponse.meaning, noFrame]
  have same := sameBlock_firstReceived s rx none .tmout
  have serves := (serves_bigTimeout (firstReceived s rx none .tmout)).iterationPhase
  rw [timeoutCalls_of_sameBlock same, iterationCalls_of_sameBlock same] at serves
  obtain ⟨t, e, ended⟩ := stepEnded_of_serves idle (bigStep_withAwait_of_timeout due timeout) serves
    ((length_of_meanings meant).trans len) ⟨answers, cbDue, meant⟩
  exact ⟨t, e, ended.trace, ended.rsps, ended.phase, ended.await, ended.rxDue, ended.cbDue, ended.pendDue, ended.hb,
    ended.routing, ended.cfg, ended.cmds, ended.pins, ended.resetReq⟩

/-- Settles O46: one round of the frame loop, the iteration phase, and the last line. -/
theorem stepOnOneFrame : Obligations.StepOnOneFrame := by
  intro s r rx answers gs cb idle off due frame cbDue meant len
  have received : r.meaning = some r.frame := by simp [RecvResponse.meaning, frame]
  have same := sameBlock_firstReceived s rx (some r.frame) .dispatch
  have offHere : (firstReceived s rx (some r.frame) .dispatch).cfg.drainQueue = false := by rw [same.cfg, off]
  have serves := (serves_bigFrames_of_noDrain s.pend.length r.frame offHere).iterationPhase
  rw [frameCalls_of_sameBlock same, iterationCalls_of_sameBlock same] at serves
  obtain ⟨t, e, ended⟩ := stepEnded_of_serves idle (bigStep_withAwait_of_frame due received) serves
    ((length_of_meanings meant).trans len) ⟨answers, cbDue, meant⟩
  exact ⟨t, e, ended.trace, ended.rsps, ended.phase, ended.await, ended.rxDue, ended.cbDue, ended.pendDue, ended.hb,
    ended.routing, ended.cfg, ended.cmds, ended.pins, ended.resetReq⟩

/-- Settles O47: the drained frames, the iteration phase, and the last line. -/
theorem stepDrainsQueue : Obligations.StepDrainsQueue := by
  intro s f fs rx pend answers gs hs cb idle drain rxDue pendDue routed cbDue meant lenFrames lenIter
  have due : s.rxDue = ⟨true, f⟩ :: (fs.map (fun g => ⟨true, g⟩) ++ rx) := rxDue
  have rounds : fs.length < s.pend.length + 1 := by
    have counted : s.pendDue.length ≤ s.pend.length := by simp [State.pendDue]
    simp only [pendDue, List.length_append, List.length_map] at counted
    omega
  have same := sameBlock_firstReceived s (fs.map (fun g => ⟨true, g⟩) ++ rx) (some f) .dispatch
  have received := ran_firstReceived s (fs.map (fun g => ⟨true, g⟩) ++ rx) (some f) .dispatch
  obtain ⟨t, events, run, drained, ran, returns⟩ := bigFrames_drain drain same rounds received.rxDue
    (received.pendDue.trans pendDue) routed lenFrames (by rw [firstReceived_cbDue]; exact ⟨answers, cbDue, meant⟩)
  have sameT := same.trans ran.toSameBlock
  have lenCalls : hs.length = (iterationCalls t).length := by simp [iterationCalls, sameT.iter, lenIter]
  rw [← List.append_nil hs] at returns
  obtain ⟨u, iterated, ranIter, returnsIter⟩ := serves_bigIterationPhase t hs [] cb lenCalls returns
  rw [iterationCalls_of_sameBlock sameT, sameT.cfg, ran.rxDue, ran.pendDue] at ranIter
  have whole : bigStep (s.withAwait .none) = bigEnd u := by
    rw [bigStep_withAwait_of_frame due rfl, run, Run.andThen, iterated, Run.andThen]
  obtain ⟨v, e, ended⟩ := stepEnded_of_ran idle whole ((received.trans ran).trans ranIter) returnsIter
  refine ⟨v, e, ?_, ended.rsps, ended.phase, ended.await, ended.rxDue, ended.pendDue, ended.cbDue, ended.hb,
    ended.routing, ended.cfg, ended.cmds⟩
  rw [ended.trace, drained]
  simp

end Sys2Proof.Machine
end

section
/-! Units P, I and H raise no condition: what a command of theirs answers and writes is a function of the buffer (60_exceptions.md
R292; R130, R150, R170). -/

namespace Sys2Proof.Machine

/-- What `CodecCommandsAlwaysOk` says of one command. -/
def CompletesOk (i : Instr) : Prop :=
  ∃ (h : HBuf → HBuf) (r : HBuf → Rsp), ∀ s : State,
    exec i s = .next ((s.withHb (h s.hb)).respond (r s.hb)) ∧ (r s.hb).status = .ok

/-! ### A command that answers from the buffer, and one that writes it -/

/-- A command that only answers leaves the buffer it found. -/
theorem completesOk_of_answer {i : Instr} (r : HBuf → Rsp) (answers : ∀ s, exec i s = .next (s.respond (r s.hb)))
    (ok : ∀ b, (r b).status = .ok) : CompletesOk i :=
  ⟨id, r, fun s => ⟨answers s, ok s.hb⟩⟩

/-- A command that writes the buffer answers `OK` without a result (R92). -/
theorem completesOk_of_write {i : Instr} (h : HBuf → HBuf)
    (writes : ∀ s, exec i s = .next ((s.withHb (h s.hb)).respond okOnly)) : CompletesOk i :=
  ⟨h, fun _ => okOnly, fun s => ⟨writes s, rfl⟩⟩

theorem completesOk_getter (f : Field) : CompletesOk f.getter :=
  completesOk_of_answer (fun b => okRsp (getField b f) 0 0 0) (exec_getter f) fun _ => rfl

theorem completesOk_setter (f : Field) (v : U32) : CompletesOk (f.setter v) :=
  completesOk_of_write (setField · f v) (exec_setter f v)

/-! ### The commands of the three units -/

/-- Unit P: extraction answers, insertion writes (R130). -/
theorem completesOk_of_primitives {i : Instr} (hi : i.unit = .primitives) : CompletesOk i := by
  cases i with
  | xs p => exact completesOk_of_answer (fun b => okRsp ((extractSingle b p).setWidth 32) 0 0 0) (fun _ => rfl) fun _ => rfl
  | xp p => exact completesOk_of_answer (fun b => okRsp (extractPair b p) 0 0 0) (fun _ => rfl) fun _ => rfl
  | is p v => exact completesOk_of_write (insertSingle · v p) fun _ => rfl
  | ip p v => exact completesOk_of_write (insertPair · v p) fun _ => rfl
  | _ => cases hi

/-- Unit I: the answer is one for every buffer (R150). -/
theorem completesOk_of_identifier {i : Instr} (hi : i.unit = .identifier) : CompletesOk i := by
  cases i with
  | idEncode dt mf api dn => exact completesOk_of_answer (fun _ => _) (exec_idEncode dt mf api dn) fun _ => rfl
  | idDecode id => exact completesOk_of_answer (fun _ => _) (exec_idDecode id) fun _ => rfl
  | idFromRaw id => exact completesOk_of_answer (fun _ => _) (exec_idFromRaw id) fun _ => rfl
  | _ => cases hi

/-- Unit H: a field's getter or setter, or a command on the whole buffer (R170). -/
theorem completesOk_of_heartbeat {i : Instr} (hi : i.unit = .heartbeat) : CompletesOk i := by
  cases i with
  | hbGetHour => exact completesOk_getter .hour
  | hbGetMinute => exact completesOk_getter .minute
  | hbGetSecond => exact completesOk_getter .second
  | hbGetDay => exact completesOk_getter .day
  | hbGetMonth => exact completesOk_getter .month
  | hbGetYear => exact completesOk_getter .year
  | hbGetTournamentType => exact completesOk_getter .tournamentType
  | hbGetSystemWatchdog => exact completesOk_getter .systemWatchdog
  | hbGetTestMode => exact completesOk_getter .testMode
  | hbGetAutonomous => exact completesOk_getter .autonomous
  | hbGetEnabled => exact completesOk_getter .enabled
  | hbGetRedAlliance => exact completesOk_getter .redAlliance
  | hbGetReplayNumber => exact completesOk_getter .replayNumber
  | hbGetMatchNumber => exact completesOk_getter .matchNumber
  | hbGetMatchTimeSeconds => exact completesOk_getter .matchTimeSeconds
  | hbSetHour v => exact completesOk_setter .hour v
  | hbSetMinute v => exact completesOk_setter .minute v
  | hbSetSecond v => exact completesOk_setter .second v
  | hbSetDay v => exact completesOk_setter .day v
  | hbSetMonth v => exact completesOk_setter .month v
  | hbSetYear v => exact completesOk_setter .year v
  | hbSetTournamentType v => exact completesOk_setter .tournamentType v
  | hbSetSystemWatchdog v => exact completesOk_setter .systemWatchdog v
  | hbSetTestMode v => exact completesOk_setter .testMode v
  | hbSetAutonomous v => exact completesOk_setter .autonomous v
  | hbSetEnabled v => exact completesOk_setter .enabled v
  | hbSetRedAlliance v => exact completesOk_setter .redAlliance v
  | hbSetReplayNumber v => exact completesOk_setter .replayNumber v
  | hbSetMatchNumber v => exact completesOk_setter .matchNumber v
  | hbSetMatchTimeSeconds v => exact completesOk_setter .matchTimeSeconds v
  | hbClear => exact completesOk_of_write (fun _ => HBuf.zero) exec_hbClear
  | hbLoad a0 a1 => exact completesOk_of_write (fun _ => HBuf.ofWords a0 a1) (exec_hbLoad a0 a1)
  | hbRead => exact completesOk_of_answer (fun b => okRsp b.word0 b.word1 0 0) exec_hbRead fun _ => rfl
  | _ => cases hi

/-- Settles O30: unit by unit; unit D is excluded. -/
theorem codecCommandsAlwaysOk : Obligations.CodecCommandsAlwaysOk := by
  intro i hi
  cases unit : i.unit with
  | primitives => exact completesOk_of_primitives unit
  | identifier => exact completesOk_of_identifier unit
  | heartbeat => exact completesOk_of_heartbeat unit
  | dispatcher => exact absurd unit hi

end Sys2Proof.Machine
end

section
/-! Reset comes first and abandons a `STEP` in progress; which answers count afterwards, port by port (70_reset_and_hazards.md
R340, D34). -/

namespace Sys2Proof.Machine

/-! ### The answers that count after a reset -/

/-- The answer to an abandoned `receive` counts no more: the answers that count are those after it. -/
theorem rxDue_applyReset_of_receive {s : State} {tm : Nat} (waits : s.await = .receive tm) (rx : List RecvResponse) :
    ((applyReset s).withRx rx).rxDue = (s.withRx rx).rxDue.tail := by
  have late : (applyReset s).late.receive = s.late.receive + 1 := by simp [applyReset, abandon, waits]
  calc ((applyReset s).withRx rx).rxDue
      = rx.drop (s.late.receive + 1) := congrArg rx.drop late
    _ = (s.withRx rx).rxDue.tail := List.tail_drop.symm

/-- The answer to an abandoned `has_pending` counts no more: the answers that count are those after it. -/
theorem pendDue_applyReset_of_hasPending {s : State} (waits : s.await = .hasPending) (pend : List Bool) :
    ((applyReset s).withPend pend).pendDue = (s.withPend pend).pendDue.tail := by
  have late : (applyReset s).late.hasPending = s.late.hasPending + 1 := by simp [applyReset, abandon, waits]
  calc ((applyReset s).withPend pend).pendDue
      = pend.drop (s.late.hasPending + 1) := congrArg pend.drop late
    _ = (s.withPend pend).pendDue.tail := List.tail_drop.symm

/-- The commands and the answer of an abandoned invocation count no more (log entry 4). -/
theorem cbDue_applyReset_of_callback {s : State} {req : CbRequest} (waits : s.await = .callback req) (cb : List CbEvent) :
    ((applyReset s).withCb cb).cbDue = dropAbandoned (s.withCb cb).cbDue := by
  have late : (applyReset s).late.callback = s.late.callback + 1 := by simp [applyReset, abandon, waits]
  calc ((applyReset s).withCb cb).cbDue
      = dropLate (s.late.callback + 1) cb := congrArg (dropLate · cb) late
    _ = dropAbandoned (s.withCb cb).cbDue := dropLate_succ _ _

/-! ### A port on which no request was outstanding -/

theorem abandon_receive_of_ne {a : Await} (other : ∀ tm, a ≠ .receive tm) (l : Late) : (abandon a l).receive = l.receive := by
  cases a with
  | receive tm => exact absurd rfl (other tm)
  | none | hasPending | callback => rfl

theorem abandon_hasPending_of_ne {a : Await} (other : a ≠ .hasPending) (l : Late) :
    (abandon a l).hasPending = l.hasPending := by
  cases a with
  | hasPending => exact absurd rfl other
  | none | receive | callback => rfl

theorem abandon_callback_of_ne {a : Await} (other : ∀ req, a ≠ .callback req) (l : Late) :
    (abandon a l).callback = l.callback := by
  cases a with
  | callback req => exact absurd rfl (other req)
  | none | receive | hasPending => rfl

/-! ### The step -/

/-- A reset request is served before anything else (R340). -/
theorem step_of_resetReq {s : State} (requested : s.resetReq = true) : step s = .next (applyReset s) := by
  simp [step, nextAction, requested]

/-- Settles O58: the step is `applyReset`, whose values and kept inputs are written there; what counts on each port by whether
the abandoned request was that port's. -/
theorem resetAbandonsStep : Obligations.ResetAbandonsStep := by
  intro s requested
  refine ⟨applyReset s, step_of_resetReq requested, HBuf.get_zero, rfl, rfl, rfl, rfl, rfl, rfl, rfl, rfl, rfl, rfl, rfl, rfl,
    rfl, rfl, rfl, rfl, rfl, rfl, rfl, rfl, ?receive, ?noReceive, ?hasPending, ?noHasPending, ?callback, ?noCallback⟩
  case receive =>
    intro tm more rest r waits due
    exact (rxDue_applyReset_of_receive waits _).trans (congrArg List.tail due)
  case noReceive => exact fun other rx => congrArg rx.drop (abandon_receive_of_ne other s.late)
  case hasPending =>
    intro more rest p waits due
    exact (pendDue_applyReset_of_hasPending waits _).trans (congrArg List.tail due)
  case noHasPending => exact fun other pend => congrArg pend.drop (abandon_hasPending_of_ne other s.late)
  case callback =>
    intro req more rest ws r waits due
    calc ((applyReset s).withCb ((applyReset s).cb ++ more)).cbDue
        = dropAbandoned (s.withCb (s.cb ++ more)).cbDue := cbDue_applyReset_of_callback waits _
      _ = rest := by rw [due, dropAbandoned_answered]
  case noCallback => exact fun other cb => congrArg (dropLate · cb) (abandon_callback_of_ne other s.late)

end Sys2Proof.Machine
end
